-- ==== Sys2Proof/Word.lean ====
section
/-! DEFINITION. The word types of the block: a byte, a bus address, and the operand widths of the command stream. -/

namespace Sys2Proof

/-- A byte is 8 bits, an unsigned value 0 to 255 (00_scope.md R8). -/
abbrev Byte := BitVec 8

/-- A 7-bit bus address, 0 to 127 (10_state.md R35, 20_memory.md R65). -/
abbrev Addr := BitVec 7

/-- A 32-bit operand: an offset (read as signed), a length or a ceiling (read as unsigned) (30_encoding.md R73). -/
abbrev Word32 := BitVec 32

end Sys2Proof
end

