-- ==== Sys2Proof/Machine/Bytes.lean ====
section
/-! DEFINITION. Byte-order and sign-extension helpers, and reading and writing a byte buffer (00_scope.md R8, R9). -/

namespace Sys2Proof.Machine

/-- `le_bytes`: the low `w` bytes of `v`, least significant first (R9). -/
def leBytes : Nat → Nat → List Byte
  | 0, _ => []
  | w + 1, v => BitVec.ofNat 8 v :: leBytes w (v / 256)

/-- `le`: the unsigned value of a byte sequence whose first byte is least significant (R9). -/
def ofLe : List Byte → Nat
  | [] => 0
  | x :: xs => x.toNat + 256 * ofLe xs

/-- `be_bytes`: the low `w` bytes of `v`, most significant first (R9). -/
def beBytes (w v : Nat) : List Byte := (leBytes w v).reverse

/-- `be`: the unsigned value of a byte sequence whose first byte is most significant (R9). -/
def ofBe (xs : List Byte) : Nat := ofLe xs.reverse

/-- `sext_bits`: a `bits`-bit pattern read as two's complement (R8). -/
def sext (bits v : Nat) : Int := if v < 2 ^ (bits - 1) then (v : Int) else (v : Int) - 2 ^ bits

/-- `MemRead(buf, addr, n)` (R9): the `n` bytes from `addr` on. Callers check the bounds first (20_memory.md R53). -/
def memRead (buf : List Byte) (addr n : Nat) : List Byte := (buf.drop addr).take n

/-- `MemWrite(buf, addr, n, bytes)` (R9) with `n` the number of bytes given. Callers check the bounds first. -/
def memWrite (buf : List Byte) (addr : Nat) (bytes : List Byte) : List Byte :=
  buf.take addr ++ bytes ++ buf.drop (addr + bytes.length)

/-- `n` bytes of 0x00 (42_packed_writer.md R152, 10_state.md R35). -/
def zeroBytes (n : Nat) : List Byte := List.replicate n 0

/-- Byte `i` of a sequence; 0 where there is none (callers have checked that it exists). -/
def byteAt (xs : List Byte) (i : Nat) : Byte := xs.getD i 0

end Sys2Proof.Machine
end

