-- ==== Sys2Proof/Config.lean ====
section
/-! DEFINITION. What a build of the block fixes (00_scope.md R7) and what stays free: the environment's answers. -/

namespace Sys2Proof

/-- `CKS_ORDER` (R7, R81): which accumulator is the high byte of `get()`. -/
inductive CksOrder where
  /-- `get() = (a << 8) | b`. -/
  | aHigh
  /-- `get() = (b << 8) | a`. -/
  | bHigh
deriving DecidableEq, Repr, Inhabited

/-- The parameters that are OPEN in R7 and that a build of the block fixes (92_eei_decisions.md P1, P2, P3). Log 5, log 12. -/
structure Build where
  /-- `CKS_ORDER`. -/
  cksOrder : CksOrder
  /-- Channel `a` of `CKS_INIT`. -/
  cksInitA : Byte
  /-- Channel `b` of `CKS_INIT`. -/
  cksInitB : Byte
  /-- `HAS_RSTART`: the driver has a repeated-start signal distinct from start. -/
  hasRstart : Bool
deriving DecidableEq, Repr, Inhabited

/-- The configuration: every parameter of R7, a field each. Every function whose rule names a parameter takes it from here. -/
structure Config where
  /-- `CKS_ORDER`. -/
  cksOrder : CksOrder
  /-- Channel `a` of `CKS_INIT`. -/
  cksInitA : Byte
  /-- Channel `b` of `CKS_INIT`. -/
  cksInitB : Byte
  /-- `SYNC1` (R79). -/
  sync1 : Byte
  /-- `SYNC2` (R79). -/
  sync2 : Byte
  /-- `PAYLOAD_MAX` (R191). -/
  payloadMax : Nat
  /-- `FRAME_OVERHEAD` (R63). -/
  frameOverhead : Nat
  /-- `ADDR_BITS` (R220). -/
  addrBits : Nat
  /-- `HAS_RSTART` (R240). -/
  hasRstart : Bool
  /-- `TP_ADDR` as it stands at reset: none, because `TP.CONFIG` sets it (R40). -/
  tpAddr : Option Addr
  /-- `TP_CEILING` as it stands at reset (R40). -/
  tpCeiling : Word32
  /-- `SEL_COUNT` (R82). -/
  selCount : Byte
  /-- `SEL_DATA` (R82). -/
  selData : Byte
  /-- `NO_DATA` (R258). -/
  noData : Byte
  /-- `OFF_BITS` (R73). -/
  offBits : Nat
  /-- `LEN_BITS` (R73); a length operand is refused from 2^(LEN_BITS - 1) up (R283 `OperandRange`, D11). -/
  lenBits : Nat
deriving DecidableEq, Repr, Inhabited

/-- What the environment does with one primitive call (45_bus_engine.md R225, R244; 93_implementation_defined.md U7, U8).
One type serves all eight primitives: a condition ignores both values, an address or data byte reads `ack`, a byte read
takes `byte`. Log 3. -/
inductive DrvAnswer where
  /-- The call returns; `ack` and `byte` are what it answers where it answers one. -/
  | returns (ack : Bool) (byte : Byte)
  /-- The call fails with a driver fault. -/
  | fails
  /-- The call never returns. -/
  | never
deriving DecidableEq, Repr, Inhabited

/-- The free oracle (R41: "every answer of a primitive is a free draw"): the answer of the n-th draw. No body, so nothing can
be proved of a value of it. Log 3. -/
opaque Config.envAnswer : Nat → DrvAnswer

end Sys2Proof
end

