-- ==== Sys2Proof/Machine/Params.lean ====
section
/-! DEFINITION. The values of the parameters: those that 00_scope.md R7 fixes, and the spec's defaults of the open ones. -/

namespace Sys2Proof

/-- The configuration of a build: the values of R7, and the build's own where R7 leaves the parameter open. -/
def Build.config (b : Build) : Config where
  cksOrder := b.cksOrder
  cksInitA := b.cksInitA
  cksInitB := b.cksInitB
  sync1 := 0xB5
  sync2 := 0x62
  payloadMax := 65535
  frameOverhead := 8
  addrBits := 7
  hasRstart := b.hasRstart
  tpAddr := none
  tpCeiling := 4096
  selCount := 0xFC
  selData := 0xFF
  noData := 0xFF
  offBits := 32
  lenBits := 32

/-- The spec's defaults: `A_HIGH` (D2) and `(0, 0)` (D3), log 5. For `HAS_RSTART` it has none; a distinct signal is the model's
DESIGN CHOICE, log 12. -/
def Build.specDefault : Build := ⟨.aHigh, 0, 0, true⟩

end Sys2Proof
end

