-- ==== Sys2Proof/Machine/State.lean ====
section
/-! DEFINITION. The state of the block (10_state.md), as plain data: one structure per slot or unit, the command results, and the
machine after reset. INVENTORY.md lists every field with its rule and reset value. -/

namespace Sys2Proof.Machine

/-! ## The vocabulary of results and of the bus -/

/-- The eight bus primitives (45_bus_engine.md R225). -/
inductive Prim where
  | openPort | closePort | start | rstart | stop | addr | wbyte | rbyte
deriving DecidableEq, Repr, Inhabited

/-- One letter of `bus_trace` per primitive call (R239). -/
inductive BusEvent where
  /-- `OPEN`. -/
  | opened
  /-- `CLOSE`. -/
  | closed
  /-- `S`. -/
  | s
  /-- `Sr`. -/
  | sr
  /-- `P`. -/
  | p
  /-- `A(addr, W or R, ack)`. -/
  | a (addr : Addr) (isRead : Bool) (ack : Bool)
  /-- `W(byte, ack)`. -/
  | w (byte : Byte) (ack : Bool)
  /-- `R(ackNext, byte)`. -/
  | r (ackNext : Bool) (byte : Byte)
  /-- `X(call)`: the call failed with a driver fault. -/
  | x (call : Prim)
deriving DecidableEq, Repr, Inhabited

/-- The three faults of the bus engine (60_exceptions.md R280, codes 3 to 5). -/
inductive BusFault where
  /-- The address byte of a segment was not acknowledged. -/
  | nackAddress (addr : Addr)
  /-- Data byte `byte` of Write segment `seg` was not acknowledged. -/
  | nackDataWrite (addr : Addr) (seg byte : Nat)
  /-- A primitive failed locally. -/
  | driverFault (call : Prim)
deriving DecidableEq, Repr, Inhabited

/-- The eight faults a command can end with (R280). They are results handed to the host, after which the block takes the next
command (R285, R293); they are not `Fault`, which stops the machine. -/
inductive CmdFault where
  /-- Code 1: the offset operand (or the cursor) and the width asked for. -/
  | boundsError (off : Int) (width : Nat)
  /-- Code 2: the payload length offered. -/
  | frameTooLong (length : Nat)
  /-- Codes 3 to 5. -/
  | bus (f : BusFault)
  /-- Code 6, with the original fault. -/
  | transportUnreachable (f : BusFault)
  /-- Code 7, with the original fault. -/
  | transportDriver (f : BusFault)
  /-- Code 8, with the original fault. -/
  | transportGeneric (f : BusFault)
deriving DecidableEq, Repr, Inhabited

/-- The eight refusals a command can end with (R283). They are results handed to the host; they are not `Refusal`. -/
inductive RefuseReason where
  | unknownOpcode | truncatedCommand | noObject | operandRange | addressRange | noDefaultAddress | txnConsumed | notConfigured
deriving DecidableEq, Repr, Inhabited

/-- A value a command returns (30_encoding.md R78). -/
inductive Value where
  /-- An integer. -/
  | int (v : Int)
  /-- A 16-bit checksum. -/
  | bits16 (v : BitVec 16)
  /-- A binary32 pattern. -/
  | bits32 (v : BitVec 32)
  /-- A binary64 pattern. -/
  | bits64 (v : BitVec 64)
  /-- A character code 0 to 255. -/
  | char (code : Byte)
  /-- A byte sequence. -/
  | bytes (v : List Byte)
  /-- The frame slot, whose content is in `State.frm`. -/
  | frameSlot
deriving DecidableEq, Repr, Inhabited

/-- The result of a command: exactly one of these (R78, 00_scope.md R10). -/
inductive Result where
  /-- `Ok` with no value. -/
  | ok
  /-- `Ok(v)`. -/
  | value (v : Value)
  /-- `Absent`. -/
  | absent
  /-- `Fault(kind, info)`. -/
  | fault (f : CmdFault)
  /-- `Refused(reason)`. -/
  | refused (r : RefuseReason)
deriving DecidableEq, Repr, Inhabited

/-! ## The slots -/

/-- `a` and `b` (10_state.md R21). -/
structure Cks where
  a : Byte
  b : Byte
deriving DecidableEq, Repr, Inhabited

/-- `pr_valid`, `pr_buf`, `pr_cur` (R23, R24). -/
structure PackedReader where
  valid : Bool
  buf : List Byte
  cur : Nat
deriving DecidableEq, Repr, Inhabited

/-- `pr_len` is the length of `pr_buf` (R23). Log 7. -/
abbrev PackedReader.len (r : PackedReader) : Nat := r.buf.length

/-- `pw_valid`, `pw_buf`, `pw_cur` (R25, R26). -/
structure PackedWriter where
  valid : Bool
  buf : List Byte
  cur : Nat
deriving DecidableEq, Repr, Inhabited

/-- `pw_len` is the length of `pw_buf` (R25). Log 7. -/
abbrev PackedWriter.len (w : PackedWriter) : Nat := w.buf.length

/-- `frm_valid`, `frm_class`, `frm_id`, `frm_payload`, `frm_ser`, `frm_cks` (R30 to R33). -/
structure FrameSlot where
  valid : Bool
  cls : Byte
  id : Byte
  payload : List Byte
  ser : Option (List Byte)
  ck : Option (BitVec 16)
deriving DecidableEq, Repr, Inhabited

/-- The direction of a segment (R35). -/
inductive Dir where
  | write | read
deriving DecidableEq, Repr, Inhabited

/-- One addressed read or write operation (R35). -/
structure Segment where
  dir : Dir
  addr : Addr
  data : List Byte
deriving DecidableEq, Repr, Inhabited

/-- `tb_valid`, `tb_segs`, `tb_default` (R34). -/
structure Builder where
  valid : Bool
  segs : List Segment
  dflt : Option Addr
deriving DecidableEq, Repr, Inhabited

/-- `txn_valid`, `txn_segs`, `txn_consumed` (R36). -/
structure TxnSlot where
  valid : Bool
  segs : List Segment
  consumed : Bool
deriving DecidableEq, Repr, Inhabited

/-- `eng_phase` (R37, 45_bus_engine.md R238). -/
inductive Phase where
  | idle | start | addr | wdata | rdata | stop
deriving DecidableEq, Repr, Inhabited

/-- The bus side: the engine position `eng_phase`, `eng_seg`, `eng_byte`, `eng_err` (R37), the history `bus_trace` (R38), and the
model's own view of the environment (log 3, log 4). -/
structure Bus where
  phase : Phase
  seg : Nat
  byte : Nat
  err : Option BusFault
  /-- Oldest call first. -/
  trace : List BusEvent
  /-- Model's own: the answers given in advance, next one first. -/
  script : List DrvAnswer
  /-- Model's own: how many answers the free oracle has given. -/
  draws : Nat
  /-- Model's own: the call that has not returned (45_bus_engine.md R244). -/
  blocked : Option Prim
deriving DecidableEq, Repr, Inhabited

/-- `tp_addr_valid`, `tp_addr`, `tp_ceiling` (R40). -/
structure Transport where
  addrValid : Bool
  addr : Addr
  ceiling : Word32
deriving DecidableEq, Repr, Inhabited

/-- The whole state. -/
structure State where
  /-- Model's own: the open parameters as this block was built with them (00_scope.md R7; P1, P2, P3 of 92_eei_decisions.md). No
  command writes it. Log 5, log 12. -/
  build : Build
  cks : Cks
  pr : PackedReader
  pw : PackedWriter
  frm : FrameSlot
  tb : Builder
  txn : TxnSlot
  bus : Bus
  tp : Transport
  /-- Model's own: the hand-overs of the host not yet begun, oldest first (30_encoding.md R70). Log 2. -/
  cmdIn : List (List Byte)
  /-- Model's own: the result of the last command (R78); none before the first one and while a command has not ended. Log 1. -/
  result : Option Result
deriving DecidableEq, Repr, Inhabited

/-- The configuration the block runs with: R7's values and its build's. -/
def State.cfg (s : State) : Config := s.build.config

/-! ## Updates, one per field of `State` -/

def State.withCks (s : State) (v : Cks) : State := { s with cks := v }
def State.withPr (s : State) (v : PackedReader) : State := { s with pr := v }
def State.withPw (s : State) (v : PackedWriter) : State := { s with pw := v }
def State.withFrm (s : State) (v : FrameSlot) : State := { s with frm := v }
def State.withTb (s : State) (v : Builder) : State := { s with tb := v }
def State.withTxn (s : State) (v : TxnSlot) : State := { s with txn := v }
def State.withBus (s : State) (v : Bus) : State := { s with bus := v }
def State.withTp (s : State) (v : Transport) : State := { s with tp := v }
def State.withCmdIn (s : State) (v : List (List Byte)) : State := { s with cmdIn := v }
def State.withResult (s : State) (v : Option Result) : State := { s with result := v }

/-- Move the engine position (R37). -/
def Bus.at (b : Bus) (phase : Phase) (seg byte : Nat) : Bus := { b with phase := phase, seg := seg, byte := byte }

/-- Append a call to `bus_trace` (R38). -/
def Bus.record (b : Bus) (e : BusEvent) : Bus := { b with trace := b.trace ++ [e] }

/-- Set `eng_err` (R37). -/
def Bus.withErr (b : Bus) (e : Option BusFault) : Bus := { b with err := e }

/-- The engine is at rest: `eng_phase` is `Idle` and `eng_err` none (R37). -/
def Bus.toIdle (b : Bus) : Bus := { b with phase := .idle, err := none }

/-- A call that does not return (R244). -/
def Bus.block (b : Bus) (call : Prim) : Bus := { b with blocked := some call }

/-! ## Why the machine itself stops -/

/-- What stops the machine. No meaning of a command raises one. -/
inductive Fault where
  /-- Raised by `step` alone, when a step is asked for while a primitive call has not returned (45_bus_engine.md R244,
  70_reset_and_hazards.md R326): the command never ends and no later command begins. Safe: the block goes on to nothing. -/
  | primitiveNeverReturns (call : Prim)
deriving DecidableEq, Repr, Inhabited

/-- What the model gives no meaning to. -/
inductive Refusal where
  /-- A command with no meaning in the model. No arm of `exec` answers it: every command is modelled. Safe. -/
  | notModelled (mnemonic : String)
deriving DecidableEq, Repr, Inhabited

/-! ## Reset -/

/-- A block of a given build, after reset (R43, 70_reset_and_hazards.md R311): a fresh accumulator, no valid slot, the
engine idle, an empty history, no transport address, ceiling 4096. Fields the spec leaves unspecified are zero, empty or none
(log 6); the model's own fields are empty (log 1, log 2, log 3, log 4). -/
def State.resetOf (b : Build) : State where
  build := b
  cks := ⟨b.config.cksInitA, b.config.cksInitB⟩
  pr := ⟨false, [], 0⟩
  pw := ⟨false, [], 0⟩
  frm := ⟨false, 0, 0, [], none, none⟩
  tb := ⟨false, [], none⟩
  txn := ⟨false, [], false⟩
  bus := ⟨.idle, 0, 0, none, [], [], 0, none⟩
  tp := ⟨b.config.tpAddr.isSome, b.config.tpAddr.getD 0, b.config.tpCeiling⟩
  cmdIn := []
  result := none

/-- The block after reset, built with the spec's defaults of its open parameters (D2, D3; log 5, log 12). -/
def State.reset : State := State.resetOf Build.specDefault

end Sys2Proof.Machine
end

