-- ==== Sys2Proof/Machine/Ops.lean ====
section
/-! DEFINITION. The shared operations: how a command ends (a value, Absent, a fault, a refusal), and the checksum accumulator. -/

namespace Sys2Proof.Machine

/-! ## How a command ends (30_encoding.md R78, 00_scope.md R10) -/

/-- The command finishes with a result. -/
def State.finish (s : State) (r : Result) : State := s.withResult (some r)

/-- `return Ok`. -/
def State.ok (s : State) : State := s.finish .ok

/-- `return Ok(v)`. -/
def State.okValue (s : State) (v : Value) : State := s.finish (.value v)

/-- `return Absent` (60_exceptions.md R282). -/
def State.absent (s : State) : State := s.finish .absent

/-- `raise f` (00_scope.md R9, 60_exceptions.md R285, R290): TAKING AN EXCEPTION. The block has no vector, no saved pc, no status
and no mode: the command ends with the fault as its result and nothing else is recorded. There is no return from it (R293): the
next command simply follows. -/
def State.raise (s : State) (f : CmdFault) : State := s.finish (.fault f)

/-- `refuse r` (R9, R283): the command ends with no state change. -/
def State.refuse (s : State) (r : RefuseReason) : State := s.finish (.refused r)

/-- The command does not end: a primitive call has not returned (45_bus_engine.md R244). It has no result. -/
def State.hang (s : State) : State := s.withResult none

/-- The numeric code of a fault (R280). -/
def faultCode : CmdFault → Nat
  | .boundsError _ _ => 1
  | .frameTooLong _ => 2
  | .bus (.nackAddress _) => 3
  | .bus (.nackDataWrite _ _ _) => 4
  | .bus (.driverFault _) => 5
  | .transportUnreachable _ => 6
  | .transportDriver _ => 7
  | .transportGeneric _ => 8

/-! ## The checksum accumulator (40_checksum.md) -/

/-- A fresh accumulator, `CKS_INIT` (R101). -/
def cksFresh (cfg : Config) : Cks := ⟨cfg.cksInitA, cfg.cksInitB⟩

/-- `update8` (R102): `a` takes the byte, then `b` takes the new `a`, both modulo 256. -/
def cksFeed (c : Cks) (x : Byte) : Cks := ⟨c.a + x, c.b + (c.a + x)⟩

/-- `update16` (R103): the high byte, then the low byte. -/
def cksFeed16 (c : Cks) (v : BitVec 16) : Cks := cksFeed (cksFeed c (v.extractLsb' 8 8)) (v.extractLsb' 0 8)

/-- `get()` (R104, 30_encoding.md R81). -/
def cksGet (cfg : Config) (c : Cks) : BitVec 16 :=
  match cfg.cksOrder with
  | .aHigh => c.a ++ c.b
  | .bHigh => c.b ++ c.a

/-- `cks_over(bytes)` (R105): the checksum of a sequence on a private accumulator (10_state.md R22). -/
def cksOver (cfg : Config) (xs : List Byte) : BitVec 16 := cksGet cfg (xs.foldl cksFeed (cksFresh cfg))

end Sys2Proof.Machine
end

