-- ==== Sys2Proof/Machine/Operands.lean ====
section
/-! DEFINITION. The operand forms: effective offsets and bounds (20_memory.md R52, R53), the field types of the packed commands
(30_encoding.md R74), the range of an address and of a length. -/

namespace Sys2Proof.Machine

/-! ## Offsets and bounds -/

/-- The value of an `off` operand: its `OFF_BITS` bits read as two's complement (R73). -/
def offValue (cfg : Config) (off : Word32) : Int := sext cfg.offBits off.toNat

/-- The effective offset (R52): `off` itself, or `L + off` for a negative `off`. -/
def effOff (off : Int) (len : Nat) : Int := if 0 ≤ off then off else (len : Int) + off

/-- An access of `n` bytes at `eff` lies in a buffer of `len` bytes (R53). -/
def inRange (eff : Int) (n len : Nat) : Bool := decide (0 ≤ eff ∧ eff + (n : Int) ≤ (len : Int))

/-- An `n` operand in range (R73, R283): below 2^31, the sign bit of `LEN_BITS` bits. -/
def lengthOk (cfg : Config) (n : Nat) : Bool := decide (n < 2 ^ (cfg.lenBits - 1))

/-- An `addr` operand in range (44_transaction_builder.md R220): `ADDR_BITS` bits, 0 to 127. -/
def addrOk (cfg : Config) (addr : Byte) : Bool := decide (addr.toNat < 2 ^ cfg.addrBits)

/-- The 7-bit address of an operand in range. -/
def toAddr (addr : Byte) : Addr := BitVec.ofNat 7 addr.toNat

/-! ## Field types -/

/-- The thirteen scalar field types (R74). BYTES has an operand for its width and is handled by its own commands. -/
inductive FieldType where
  | u8 | s8 | u16le | s16le | u16be | s16be | u32le | s32le | u32be | s32be | f32 | f64 | char
deriving DecidableEq, Repr, Inhabited

/-- `W`, the width in bytes (R74). -/
def fieldWidth : FieldType → Nat
  | .u8 | .s8 | .char => 1
  | .u16le | .s16le | .u16be | .s16be => 2
  | .u32le | .s32le | .u32be | .s32be | .f32 => 4
  | .f64 => 8

/-- `conv_T` (41_packed_reader.md R113 to R125): the value of a field's bytes. -/
def fieldConv (t : FieldType) (raw : List Byte) : Value :=
  match t with
  | .u8 => .int (ofLe raw)
  | .s8 => .int (sext 8 (ofLe raw))
  | .u16le => .int (ofLe raw)
  | .s16le => .int (sext 16 (ofLe raw))
  | .u16be => .int (ofBe raw)
  | .s16be => .int (sext 16 (ofBe raw))
  | .u32le => .int (ofLe raw)
  | .s32le => .int (sext 32 (ofLe raw))
  | .u32be => .int (ofBe raw)
  | .s32be => .int (sext 32 (ofBe raw))
  | .f32 => .bits32 (BitVec.ofNat 32 (ofLe raw))
  | .f64 => .bits64 (BitVec.ofNat 64 (ofLe raw))
  | .char => .char (BitVec.ofNat 8 (ofLe raw))

/-- `bytes_T` (42_packed_writer.md R153 to R165): the bytes of a pattern. A value too wide keeps its low bits (R183). -/
def fieldBytes (t : FieldType) (val : Nat) : List Byte :=
  match t with
  | .u8 | .s8 | .char => leBytes 1 val
  | .u16le | .s16le => leBytes 2 val
  | .u16be | .s16be => beBytes 2 val
  | .u32le | .s32le | .f32 => leBytes 4 val
  | .u32be | .s32be => beBytes 4 val
  | .f64 => leBytes 8 val

end Sys2Proof.Machine
end

