-- ==== Sys2Proof/Machine/Flags.lean ====
section
/-! DEFINITION. What plays the part of flags (10_state.md R39): the valid bits a command needs (60_exceptions.md R283, R287) and
`ackNext`. No command sets a flag as a side effect other than as its rule says, and none keeps a carry (40_checksum.md R102). -/

namespace Sys2Proof.Machine

/-- Run `k` if the slot's valid bit is set, else refuse `NoObject` (R283, R287 line 4). -/
def needObject (valid : Bool) (s : State) (k : State → State) : State := if valid then k s else s.refuse .noObject

/-- Run `k` if the transport has an address, else refuse `NotConfigured` (R287 line 3). -/
def needConfigured (s : State) (k : State → State) : State := if s.tp.addrValid then k s else s.refuse .notConfigured

/-- Run `k` if the address operand is at most 127, else refuse `AddressRange` (R287 line 6). -/
def needAddress (addr : Byte) (s : State) (k : State → State) : State := if addrOk s.cfg addr then k s else s.refuse .addressRange

/-- Run `k` with the default address, or refuse `NoDefaultAddress` (R287 line 7). -/
def needDefault (dflt : Option Addr) (s : State) (k : Addr → State → State) : State :=
  match dflt with
  | some a => k a s
  | none => s.refuse .noDefaultAddress

/-- Run `k` if the length operand is below 2^31, else refuse `OperandRange` (R287 line 8). -/
def needLength (n : Nat) (s : State) (k : State → State) : State := if lengthOk s.cfg n then k s else s.refuse .operandRange

/-- `ackNext` of byte `j` of a Read segment of `len` bytes (45_bus_engine.md R233): set for every byte but the last. -/
def ackNextOf (j len : Nat) : Bool := decide (j + 1 ≠ len)

end Sys2Proof.Machine
end

