-- ==== Sys2Proof/Machine/Engine.lean ====
section
/-! DEFINITION. The bus primitives and the transaction engine (45_bus_engine.md R225 to R246), over the bus side of the state. -/

namespace Sys2Proof.Machine

/-! ## One primitive call -/

/-- What one primitive call came to. -/
inductive CallOut where
  /-- It returned with these values. -/
  | returned (ack : Bool) (byte : Byte)
  /-- It failed with a driver fault. -/
  | failed
  /-- It has not returned. -/
  | never
deriving DecidableEq, Repr

/-- Draw the environment's next answer: the script's head, or the free oracle's next (10_state.md R41). Log 3. -/
def drawAnswer (b : Bus) : DrvAnswer × Bus :=
  match b.script with
  | x :: xs => (x, { b with script := xs })
  | [] => (Config.envAnswer b.draws, { b with draws := b.draws + 1 })

/-- Make one primitive call (R225): the answer is the environment's; the call and its answer go to `bus_trace` (R239). A call that
does not return leaves no letter and blocks the block (R244, log 4). -/
def drvCall (call : Prim) (letter : Bool → Byte → BusEvent) (b : Bus) : CallOut × Bus :=
  match drawAnswer b with
  | (.returns ack x, b') => (.returned ack x, b'.record (letter ack x))
  | (.fails, b') => (.failed, b'.record (.x call))
  | (.never, b') => (.never, b'.block call)

/-- `drv.open()`. -/
def drvOpen : Bus → CallOut × Bus := drvCall .openPort fun _ _ => .opened
/-- `drv.close()`. -/
def drvClose : Bus → CallOut × Bus := drvCall .closePort fun _ _ => .closed
/-- `drv.start()`. -/
def drvStart : Bus → CallOut × Bus := drvCall .start fun _ _ => .s
/-- `drv.rstart()` (R240: recorded as `Sr` whatever the wire shows, `wireCondition`). -/
def drvRstart : Bus → CallOut × Bus := drvCall .rstart fun _ _ => .sr
/-- `drv.stop()`. -/
def drvStop : Bus → CallOut × Bus := drvCall .stop fun _ _ => .p
/-- `drv.addr(address, isRead)`; the driver forms the address byte (30_encoding.md R80). -/
def drvAddr (addr : Addr) (isRead : Bool) : Bus → CallOut × Bus := drvCall .addr fun ack _ => .a addr isRead ack
/-- `drv.wbyte(byte)`. -/
def drvWbyte (x : Byte) : Bus → CallOut × Bus := drvCall .wbyte fun ack _ => .w x ack
/-- `drv.rbyte(ackNext)`. -/
def drvRbyte (ackNext : Bool) : Bus → CallOut × Bus := drvCall .rbyte fun _ x => .r ackNext x

/-- What a condition call shows on the wire (R240, 00_scope.md R7): a driver without a distinct repeated-start signal
(`HAS_RSTART` clear) sends a start for it. Outside the block: the engine and `bus_trace` are the same either way. -/
def wireCondition (cfg : Config) (call : Prim) : Prim := if call = .rstart ∧ cfg.hasRstart = false then .start else call

/-! ## The segment loop (R228) -/

/-- How a loop of the engine ended. -/
inductive LoopOut where
  /-- Every byte or segment was done. -/
  | done
  /-- The first failure (R231, R232, R236). -/
  | failed (f : BusFault)
  /-- A call has not returned (R244). -/
  | blocked
deriving DecidableEq, Repr

/-- Write data phase (R232): the bytes of segment `k` from index `j` on. -/
def writeLoop (addr : Addr) (k : Nat) : Nat → List Byte → Bus → LoopOut × Bus
  | _, [], b => (.done, b)
  | j, x :: xs, b =>
    match drvWbyte x (b.at .wdata k j) with
    | (.returned true _, b') => writeLoop addr k (j + 1) xs b'
    | (.returned false _, b') => (.failed (.nackDataWrite addr k j), b')
    | (.failed, b') => (.failed (.driverFault .wbyte), b')
    | (.never, b') => (.blocked, b')

/-- Read data phase (R233): the bytes of segment `k`, `len` in all, from index `j` on; each is stored as it arrives, and the ones not
reached keep what they held (R242). -/
def readLoop (k len : Nat) : Nat → List Byte → Bus → LoopOut × List Byte × Bus
  | _, [], b => (.done, [], b)
  | j, old :: olds, b =>
    match drvRbyte (ackNextOf j len) (b.at .rdata k j) with
    | (.returned _ x, b') => match readLoop k len (j + 1) olds b' with | (o, xs, b'') => (o, x :: xs, b'')
    | (.failed, b') => (.failed (.driverFault .rbyte), old :: olds, b')
    | (.never, b') => (.blocked, old :: olds, b')

/-- Data phase of an acknowledged segment (R232, R233). -/
def dataPhase (k : Nat) (g : Segment) (b : Bus) : LoopOut × Segment × Bus :=
  match g.dir with
  | .write => match writeLoop g.addr k 0 g.data b with | (o, b') => (o, g, b')
  | .read => match readLoop k g.data.length 0 g.data b with | (o, xs, b') => (o, { g with data := xs }, b')

/-- Address phase and what follows it (R231). `eng_byte` is 0 from the call on: R238 lists `j <- 0` with the call and R37 gives the
register no meaning before a data byte, so what it holds while the call has not returned is the model's choice (log 11). -/
def addrPhase (k : Nat) (g : Segment) (b : Bus) : LoopOut × Segment × Bus :=
  match drvAddr g.addr (decide (g.dir = .read)) (b.at .addr k 0) with
  | (.returned true _, b') => dataPhase k g b'
  | (.returned false _, b') => (.failed (.nackAddress g.addr), g, b')
  | (.failed, b') => (.failed (.driverFault .addr), g, b')
  | (.never, b') => (.blocked, g, b')

/-- The condition before segment `k`: a start before the first, a repeated start before every later one (R230, R240). -/
def conditionCall (k : Nat) : Bus → CallOut × Bus := if k = 0 then drvStart else drvRstart

/-- The primitive that `conditionCall` makes. -/
def conditionPrim (k : Nat) : Prim := if k = 0 then .start else .rstart

/-- Segment `k`, from its condition on. -/
def runSegment (k : Nat) (g : Segment) (b : Bus) : LoopOut × Segment × Bus :=
  match conditionCall k (b.at .start k b.byte) with
  | (.returned _ _, b') => addrPhase k g b'
  | (.failed, b') => (.failed (.driverFault (conditionPrim k)), g, b')
  | (.never, b') => (.blocked, g, b')

/-- The segments in list order (20_memory.md R67), the first of them numbered `k`; the first failure ends the loop (R235). -/
def runSegments : Nat → List Segment → Bus → LoopOut × List Segment × Bus
  | _, [], b => (.done, [], b)
  | k, g :: gs, b =>
    match runSegment k g b with
    | (.done, g', b') => match runSegments (k + 1) gs b' with | (o, gs', b'') => (o, g' :: gs', b'')
    | (.failed f, g', b') => (.failed f, g' :: gs, b')
    | (.blocked, g', b') => (.blocked, g' :: gs, b')

/-! ## Stop and result -/

/-- How a submit ended. -/
inductive EngineOut where
  | ok
  | fault (f : BusFault)
  /-- A call has not returned (R244). -/
  | blocked
deriving DecidableEq, Repr

/-- The result a finished submit has for the `eng_err` it ends with (R228). -/
def outOfErr : Option BusFault → EngineOut
  | none => .ok
  | some f => .fault f

/-- The stop condition, once, and the end of the submit (R234, R290): the first failure is kept (R289, R294). -/
def stopPhase (b : Bus) : EngineOut × Bus :=
  match drvStop (b.at .stop b.seg b.byte) with
  | (.returned _ _, b') => (outOfErr b'.err, b'.toIdle)
  | (.failed, b') => (outOfErr (b'.err <|> some (.driverFault .stop)), b'.toIdle)
  | (.never, b') => (.blocked, b')

/-- `engine_submit` (R228): the outcome, the segments with their buffers as the engine left them, and the bus. An empty list makes no
call (R229). -/
def engineSubmit (segs : List Segment) (b : Bus) : EngineOut × List Segment × Bus :=
  match segs with
  | [] => (.ok, [], b)
  | _ :: _ =>
    match runSegments 0 segs (b.withErr none) with
    | (.blocked, segs', b') => (.blocked, segs', b')
    | (.done, segs', b') => match stopPhase b' with | (o, b'') => (o, segs', b'')
    | (.failed f, segs', b') => match stopPhase (b'.withErr (some f)) with | (o, b'') => (o, segs', b'')

end Sys2Proof.Machine
end

