-- ==== Sys2Proof/Machine/BusCommands.lean ====
section
/-! DEFINITION. The bus commands (45_bus_engine.md R226, R227, R228). -/

namespace Sys2Proof.Machine

/-- `drv.open()` or `drv.close()` and nothing else (R226, R227): no open bit is kept, none is checked. -/
def portCommand (call : Prim) (drv : Bus → CallOut × Bus) (s : State) : State :=
  match drv s.bus with
  | (.returned _ _, b) => (s.withBus b).ok
  | (.failed, b) => (s.withBus b).raise (.bus (.driverFault call))
  | (.never, b) => (s.withBus b).hang

/-- The end of a `BUS.SUBMIT` (R228, R237): the slot holds the buffers as the engine left them, `Ok` stands for it. -/
def endSubmit (o : EngineOut) (s : State) : State :=
  match o with
  | .ok => s.ok
  | .fault f => s.raise (.bus f)
  | .blocked => s.hang

/-- The engine run of a `BUS.SUBMIT` whose checks have passed (R228, R243): the slot is consumed before any call. -/
def submitRun (s : State) : State :=
  match engineSubmit s.txn.segs s.bus with
  | (o, segs, b) => endSubmit o ((s.withTxn { s.txn with segs := segs, consumed := true }).withBus b)

/-- `BUS.OPEN` (R226). -/
def execBusOpen (s : State) : Host.Outcome State Fault Refusal :=
  .next (portCommand .openPort drvOpen s)

/-- `BUS.CLOSE` (R227). -/
def execBusClose (s : State) : Host.Outcome State Fault Refusal :=
  .next (portCommand .closePort drvClose s)

/-- `BUS.SUBMIT` (R228). -/
def execBusSubmit (s : State) : Host.Outcome State Fault Refusal :=
  .next (needObject s.txn.valid s fun s =>
    if s.txn.consumed then s.refuse .txnConsumed else submitRun s)

end Sys2Proof.Machine
end

