-- ==== Sys2Proof/Machine/Cks.lean ====
section
/-! DEFINITION. The checksum commands (40_checksum.md). -/

namespace Sys2Proof.Machine


/-- `CKS.NEW` (R101): a fresh instance. -/
def execCksNew (s : State) : Host.Outcome State Fault Refusal :=
  .next (s.withCks (cksFresh s.cfg)).ok

/-- `CKS.UPDATE8 imm8` (R102). -/
def execCksUpdate8 (imm : Byte) (s : State) : Host.Outcome State Fault Refusal :=
  .next (s.withCks (cksFeed s.cks imm)).ok

/-- `CKS.UPDATE16 imm16` (R103): high half, then low half. -/
def execCksUpdate16 (imm : BitVec 16) (s : State) : Host.Outcome State Fault Refusal :=
  .next (s.withCks (cksFeed16 s.cks imm)).ok

/-- `CKS.GET` (R104): the accumulator stays as it is. -/
def execCksGet (s : State) : Host.Outcome State Fault Refusal :=
  .next (s.okValue (.bits16 (cksGet s.cfg s.cks)))

end Sys2Proof.Machine
end

