-- ==== Sys2Proof/Machine/Codec.lean ====
section
/-! DEFINITION. The two pure functions of the frame codec (43_frame_codec.md R192, R196), for any configuration. -/

namespace Sys2Proof.Machine

/-- The checksummed bytes `[2, 6+n)` of a frame, in wire order: class, id, length low byte first, payload (R192, 90_conflicts.md C1). -/
def frameBody (cls id : Byte) (payload : List Byte) : List Byte := [cls, id] ++ leBytes 2 payload.length ++ payload

/-- `ser(c, i, P)` (R192). -/
def serFrame (cfg : Config) (cls id : Byte) (payload : List Byte) : List Byte :=
  [cfg.sync1, cfg.sync2] ++ frameBody cls id payload ++ beBytes 2 (cksOver cfg (frameBody cls id payload)).toNat

/-- What `parse` answers when it is not Absent (R196 step 5). -/
structure Parsed where
  cls : Byte
  id : Byte
  payload : List Byte
  ck : BitVec 16
deriving DecidableEq, Repr

/-- The declared length: the U16LE field at offset 4 (R196 step 3). -/
def declaredLen (b : List Byte) : Nat := ofLe (memRead b 4 2)

/-- The stored checksum: the U16BE field at offset -2 (R196 step 4). -/
def storedCks (b : List Byte) : BitVec 16 := BitVec.ofNat 16 (ofBe (memRead b (b.length - 2) 2))

/-- The computed checksum, over bytes `[2, L-2)` (R196 step 4). -/
def computedCks (cfg : Config) (b : List Byte) : BitVec 16 := cksOver cfg (memRead b 2 (b.length - 4))

/-- `parse(B)` (R196): the four checks in order (60_exceptions.md R288), then the fields. Nothing is Absent. -/
def parseFrame (cfg : Config) (b : List Byte) : Option Parsed :=
  if b.length < cfg.frameOverhead then none
  else if byteAt b 0 ≠ cfg.sync1 ∨ byteAt b 1 ≠ cfg.sync2 then none
  else if declaredLen b + cfg.frameOverhead ≠ b.length then none
  else if computedCks cfg b ≠ storedCks b then none
  else some ⟨byteAt b 2, byteAt b 3, memRead b 6 (b.length - cfg.frameOverhead), storedCks b⟩

end Sys2Proof.Machine
end

