-- ==== Sys2Proof/Machine/Frame.lean ====
section
/-! DEFINITION. The frame codec's commands (43_frame_codec.md). No FRM command touches `a`, `b`, the reader or the writer (R200). -/

namespace Sys2Proof.Machine

/-- The frame slot with both memo fields set (R193, R33): nothing changes where they are set already. -/
def memoize (cfg : Config) (f : FrameSlot) : FrameSlot :=
  match f.ser with
  | some _ => f
  | none =>
    let xs := serFrame cfg f.cls f.id f.payload
    { f with ser := some xs, ck := some (storedCks xs) }

/-- The frame slot with its checksum memo set (R194). `frm_ser` stays as it is. -/
def memoizeCks (cfg : Config) (f : FrameSlot) : FrameSlot :=
  match f.ck with
  | some _ => f
  | none => { f with ck := some (cksOver cfg (frameBody f.cls f.id f.payload)) }

/-- Load the frame slot from a candidate buffer, or empty it (R195; used by `TP.POLL`, R259). After Absent the other fields keep what
they held; no command reads them (log 10). -/
def loadFrame (cfg : Config) (raw : List Byte) (s : State) : State :=
  match parseFrame cfg raw with
  | none => (s.withFrm { s.frm with valid := false }).absent
  | some p => (s.withFrm ⟨true, p.cls, p.id, p.payload, some raw, some p.ck⟩).okValue .frameSlot

/-- `FRM.NEW` after the range check (R191). -/
def frmNewOp (cls id : Byte) (data : List Byte) (s : State) : State :=
  needLength data.length s fun s =>
    if s.cfg.payloadMax < data.length then s.raise (.frameTooLong data.length)
    else (s.withFrm ⟨true, cls, id, data, none, none⟩).ok

/-- `FRM.NEW cls, id, n, data` (R191). -/
def execFrmNew (cls id : Byte) (data : List Byte) (s : State) : Host.Outcome State Fault Refusal :=
  .next (frmNewOp cls id data s)

/-- `FRM.SERIALIZE` (R193). -/
def execFrmSerialize (s : State) : Host.Outcome State Fault Refusal :=
  .next (needObject s.frm.valid s fun s =>
    (s.withFrm (memoize s.cfg s.frm)).okValue (.bytes ((memoize s.cfg s.frm).ser.getD [])))

/-- `FRM.CHECKSUM` (R194). -/
def execFrmChecksum (s : State) : Host.Outcome State Fault Refusal :=
  .next (needObject s.frm.valid s fun s =>
    (s.withFrm (memoizeCks s.cfg s.frm)).okValue (.bits16 ((memoizeCks s.cfg s.frm).ck.getD 0)))

/-- `FRM.DESERIALIZE n, data` (R195). -/
def execFrmDeserialize (data : List Byte) (s : State) : Host.Outcome State Fault Refusal :=
  .next (needLength data.length s fun s => loadFrame s.cfg data s)

end Sys2Proof.Machine
end

