-- ==== Sys2Proof/Machine/Reader.lean ====
section
/-! DEFINITION. The packed reader (41_packed_reader.md). -/

namespace Sys2Proof.Machine


/-- The shape of every scalar `PR.PEEK` (R110). -/
def peekScalar (t : FieldType) (off : Word32) (s : State) : State :=
  needObject s.pr.valid s fun s =>
    if inRange (effOff (offValue s.cfg off) s.pr.len) (fieldWidth t) s.pr.len then
      s.okValue (fieldConv t (memRead s.pr.buf (effOff (offValue s.cfg off) s.pr.len).toNat (fieldWidth t)))
    else s.raise (.boundsError (offValue s.cfg off) (fieldWidth t))

/-- The shape of every scalar `PR.READ` (R111): the cursor moves only when the read succeeds. -/
def readScalar (t : FieldType) (s : State) : State :=
  needObject s.pr.valid s fun s =>
    if inRange s.pr.cur (fieldWidth t) s.pr.len then
      (s.withPr { s.pr with cur := s.pr.cur + fieldWidth t }).okValue (fieldConv t (memRead s.pr.buf s.pr.cur (fieldWidth t)))
    else s.raise (.boundsError s.pr.cur (fieldWidth t))

/-- `PR.NEW n, data` (R112). -/
def prNewOp (data : List Byte) (s : State) : State :=
  needLength data.length s fun s => (s.withPr ⟨true, data, 0⟩).ok

/-- `PR.PEEK.BYTES off, n` (R126). -/
def peekBytes (off n : Word32) (s : State) : State :=
  needObject s.pr.valid s fun s => needLength n.toNat s fun s =>
    if inRange (effOff (offValue s.cfg off) s.pr.len) n.toNat s.pr.len then
      s.okValue (.bytes (memRead s.pr.buf (effOff (offValue s.cfg off) s.pr.len).toNat n.toNat))
    else s.raise (.boundsError (offValue s.cfg off) n.toNat)

/-- `PR.READ.BYTES n` (R140). -/
def readBytes (n : Word32) (s : State) : State :=
  needObject s.pr.valid s fun s => needLength n.toNat s fun s =>
    if inRange s.pr.cur n.toNat s.pr.len then
      (s.withPr { s.pr with cur := s.pr.cur + n.toNat }).okValue (.bytes (memRead s.pr.buf s.pr.cur n.toNat))
    else s.raise (.boundsError s.pr.cur n.toNat)

/-- `PR.NEW` (R112). -/
def execPrNew (data : List Byte) (s : State) : Host.Outcome State Fault Refusal :=
  .next (prNewOp data s)

/-- `PR.PEEK.U8` (R113). -/
def execPrPeekU8 (off : Word32) (s : State) : Host.Outcome State Fault Refusal :=
  .next (peekScalar .u8 off s)

/-- `PR.PEEK.S8` (R114). -/
def execPrPeekS8 (off : Word32) (s : State) : Host.Outcome State Fault Refusal :=
  .next (peekScalar .s8 off s)

/-- `PR.PEEK.U16LE` (R115). -/
def execPrPeekU16LE (off : Word32) (s : State) : Host.Outcome State Fault Refusal :=
  .next (peekScalar .u16le off s)

/-- `PR.PEEK.S16LE` (R116). -/
def execPrPeekS16LE (off : Word32) (s : State) : Host.Outcome State Fault Refusal :=
  .next (peekScalar .s16le off s)

/-- `PR.PEEK.U16BE` (R117). -/
def execPrPeekU16BE (off : Word32) (s : State) : Host.Outcome State Fault Refusal :=
  .next (peekScalar .u16be off s)

/-- `PR.PEEK.S16BE` (R118). -/
def execPrPeekS16BE (off : Word32) (s : State) : Host.Outcome State Fault Refusal :=
  .next (peekScalar .s16be off s)

/-- `PR.PEEK.U32LE` (R119). -/
def execPrPeekU32LE (off : Word32) (s : State) : Host.Outcome State Fault Refusal :=
  .next (peekScalar .u32le off s)

/-- `PR.PEEK.S32LE` (R120). -/
def execPrPeekS32LE (off : Word32) (s : State) : Host.Outcome State Fault Refusal :=
  .next (peekScalar .s32le off s)

/-- `PR.PEEK.U32BE` (R121). -/
def execPrPeekU32BE (off : Word32) (s : State) : Host.Outcome State Fault Refusal :=
  .next (peekScalar .u32be off s)

/-- `PR.PEEK.S32BE` (R122). -/
def execPrPeekS32BE (off : Word32) (s : State) : Host.Outcome State Fault Refusal :=
  .next (peekScalar .s32be off s)

/-- `PR.PEEK.F32` (R123). -/
def execPrPeekF32 (off : Word32) (s : State) : Host.Outcome State Fault Refusal :=
  .next (peekScalar .f32 off s)

/-- `PR.PEEK.F64` (R124). -/
def execPrPeekF64 (off : Word32) (s : State) : Host.Outcome State Fault Refusal :=
  .next (peekScalar .f64 off s)

/-- `PR.PEEK.CHAR` (R125). -/
def execPrPeekChar (off : Word32) (s : State) : Host.Outcome State Fault Refusal :=
  .next (peekScalar .char off s)

/-- `PR.PEEK.BYTES` (R126). -/
def execPrPeekBytes (off : Word32) (n : Word32) (s : State) : Host.Outcome State Fault Refusal :=
  .next (peekBytes off n s)

/-- `PR.READ.U8` (R127). -/
def execPrReadU8 (s : State) : Host.Outcome State Fault Refusal :=
  .next (readScalar .u8 s)

/-- `PR.READ.S8` (R128). -/
def execPrReadS8 (s : State) : Host.Outcome State Fault Refusal :=
  .next (readScalar .s8 s)

/-- `PR.READ.U16LE` (R129). -/
def execPrReadU16LE (s : State) : Host.Outcome State Fault Refusal :=
  .next (readScalar .u16le s)

/-- `PR.READ.S16LE` (R130). -/
def execPrReadS16LE (s : State) : Host.Outcome State Fault Refusal :=
  .next (readScalar .s16le s)

/-- `PR.READ.U16BE` (R131). -/
def execPrReadU16BE (s : State) : Host.Outcome State Fault Refusal :=
  .next (readScalar .u16be s)

/-- `PR.READ.S16BE` (R132). -/
def execPrReadS16BE (s : State) : Host.Outcome State Fault Refusal :=
  .next (readScalar .s16be s)

/-- `PR.READ.U32LE` (R133). -/
def execPrReadU32LE (s : State) : Host.Outcome State Fault Refusal :=
  .next (readScalar .u32le s)

/-- `PR.READ.S32LE` (R134). -/
def execPrReadS32LE (s : State) : Host.Outcome State Fault Refusal :=
  .next (readScalar .s32le s)

/-- `PR.READ.U32BE` (R135). -/
def execPrReadU32BE (s : State) : Host.Outcome State Fault Refusal :=
  .next (readScalar .u32be s)

/-- `PR.READ.S32BE` (R136). -/
def execPrReadS32BE (s : State) : Host.Outcome State Fault Refusal :=
  .next (readScalar .s32be s)

/-- `PR.READ.F32` (R137). -/
def execPrReadF32 (s : State) : Host.Outcome State Fault Refusal :=
  .next (readScalar .f32 s)

/-- `PR.READ.F64` (R138). -/
def execPrReadF64 (s : State) : Host.Outcome State Fault Refusal :=
  .next (readScalar .f64 s)

/-- `PR.READ.CHAR` (R139). -/
def execPrReadChar (s : State) : Host.Outcome State Fault Refusal :=
  .next (readScalar .char s)

/-- `PR.READ.BYTES` (R140). -/
def execPrReadBytes (n : Word32) (s : State) : Host.Outcome State Fault Refusal :=
  .next (readBytes n s)

end Sys2Proof.Machine
end

