-- ==== Sys2Proof/Machine/Transport.lean ====
section
/-! DEFINITION. The transport adapter (46_transport_and_registry.md R250 to R261). It runs private transactions: the builder and the
transaction slot are not touched. -/

namespace Sys2Proof.Machine

/-- The recategorisation of engine faults (R253, 60_exceptions.md R295). -/
def translateFault : BusFault → CmdFault
  | .nackAddress a => .transportUnreachable (.nackAddress a)
  | .driverFault c => .transportDriver (.driverFault c)
  | .nackDataWrite a k j => .transportGeneric (.nackDataWrite a k j)

/-- Run a private transaction (R250). Where it succeeds, `k` goes on with its segments and the state after it; a failure is
translated and ends the command (R253, R260). -/
def transact (segs : List Segment) (s : State) (k : List Segment → State → State) : State :=
  match engineSubmit segs s.bus with
  | (.ok, segs', b) => k segs' (s.withBus b)
  | (.fault f, _, b) => (s.withBus b).raise (translateFault f)
  | (.blocked, _, b) => (s.withBus b).hang

/-- `TP.SEND` after its checks (R252): the frame is serialized first, which sets the memo fields. -/
def sendOp (s : State) : State :=
  transact [⟨.write, s.tp.addr, (memoize s.cfg s.frm).ser.getD []⟩]
    (s.withFrm (memoize s.cfg s.frm)) fun _ t => t.ok

/-- A poll transaction (R255, R257): write a selector, then read `n` bytes. -/
def pollSegs (addr : Addr) (selector : Byte) (n : Nat) : List Segment :=
  [⟨.write, addr, [selector]⟩, ⟨.read, addr, zeroBytes n⟩]

/-- The bytes the second segment of a poll transaction has read. -/
def pollData (segs : List Segment) : List Byte := ((segs[1]?).map Segment.data).getD []

/-- An Absent poll (R254): the frame slot is emptied. -/
def pollAbsent (s : State) : State := (s.withFrm { s.frm with valid := false }).absent

/-- The second half of a poll (R257 to R259). -/
def pollRead (count : Nat) (s : State) : State :=
  transact (pollSegs s.tp.addr s.cfg.selData count) s fun segs t =>
    if (pollData segs).head? = some t.cfg.noData then pollAbsent t
    else loadFrame t.cfg (pollData segs) t

/-- `TP.POLL` after its check (R254 to R256): the count is little-endian (20_memory.md R56). -/
def pollOp (s : State) : State :=
  transact (pollSegs s.tp.addr s.cfg.selCount 2) s fun segs t =>
    if ofLe (pollData segs) = 0 ∨ t.tp.ceiling.toNat < ofLe (pollData segs) then pollAbsent t
    else pollRead (ofLe (pollData segs)) t

/-- `TP.CONFIG addr, ceiling` (R251). -/
def execTpConfig (addr : Byte) (ceiling : Word32) (s : State) : Host.Outcome State Fault Refusal :=
  .next (needAddress addr s fun s => (s.withTp ⟨true, toAddr addr, ceiling⟩).ok)

/-- `TP.SEND` (R252). -/
def execTpSend (s : State) : Host.Outcome State Fault Refusal :=
  .next (needConfigured s fun s => needObject s.frm.valid s fun s => sendOp s)

/-- `TP.POLL` (R254). -/
def execTpPoll (s : State) : Host.Outcome State Fault Refusal :=
  .next (needConfigured s fun s => pollOp s)

end Sys2Proof.Machine
end

