-- ==== Sys2Proof/Machine/Txn.lean ====
section
/-! DEFINITION. The transaction builder (44_transaction_builder.md). -/

namespace Sys2Proof.Machine

/-- Append a segment to the builder (R214 to R217, R219). -/
def appendSegment (dir : Dir) (addr : Addr) (data : List Byte) (s : State) : State :=
  (s.withTb { s.tb with segs := s.tb.segs ++ [⟨dir, addr, data⟩] }).ok

/-- `TXN.NEW` (R211): the transaction slot is not touched. -/
def execTxnNew (s : State) : Host.Outcome State Fault Refusal :=
  .next (s.withTb ⟨true, [], none⟩).ok

/-- `TXN.WITH addr` (R213). -/
def execTxnWith (addr : Byte) (s : State) : Host.Outcome State Fault Refusal :=
  .next (needObject s.tb.valid s fun s => needAddress addr s fun s =>
    (s.withTb { s.tb with dflt := some (toAddr addr) }).ok)

/-- `TXN.WRITE addr, n, data` (R214). -/
def execTxnWrite (addr : Byte) (data : List Byte) (s : State) : Host.Outcome State Fault Refusal :=
  .next (needObject s.tb.valid s fun s => needAddress addr s fun s => needLength data.length s fun s =>
    appendSegment .write (toAddr addr) data s)

/-- `TXN.READ addr, n` (R215): a buffer of zeros. -/
def execTxnRead (addr : Byte) (n : Word32) (s : State) : Host.Outcome State Fault Refusal :=
  .next (needObject s.tb.valid s fun s => needAddress addr s fun s => needLength n.toNat s fun s =>
    appendSegment .read (toAddr addr) (zeroBytes n.toNat) s)

/-- `TXN.WRITED n, data` (R216). -/
def execTxnWrited (data : List Byte) (s : State) : Host.Outcome State Fault Refusal :=
  .next (needObject s.tb.valid s fun s => needDefault s.tb.dflt s fun a s => needLength data.length s fun s =>
    appendSegment .write a data s)

/-- `TXN.READD n` (R217). -/
def execTxnReadd (n : Word32) (s : State) : Host.Outcome State Fault Refusal :=
  .next (needObject s.tb.valid s fun s => needDefault s.tb.dflt s fun a s => needLength n.toNat s fun s =>
    appendSegment .read a (zeroBytes n.toNat) s)

/-- `TXN.BUILD` (R218): the list is frozen into the transaction slot and the builder is used up (log 10: its list keeps what it
held, unreadable). -/
def execTxnBuild (s : State) : Host.Outcome State Fault Refusal :=
  .next (needObject s.tb.valid s fun s =>
    ((s.withTxn ⟨true, s.tb.segs, false⟩).withTb { s.tb with valid := false }).ok)

end Sys2Proof.Machine
end

