-- ==== Sys2Proof/Machine/Writer.lean ====
section
/-! DEFINITION. The packed writer (42_packed_writer.md). -/

namespace Sys2Proof.Machine


/-- Store bytes at an offset that has been checked. -/
def storeAt (w : PackedWriter) (at' : Nat) (xs : List Byte) : PackedWriter := { w with buf := memWrite w.buf at' xs }

/-- The shape of every `PW.POKE` (R150, R166): bytes at an effective offset, all or none; the cursor is not read or written. -/
def pokeRaw (off : Word32) (xs : List Byte) (s : State) : State :=
  if inRange (effOff (offValue s.cfg off) s.pw.len) xs.length s.pw.len then
    (s.withPw (storeAt s.pw (effOff (offValue s.cfg off) s.pw.len).toNat xs)).ok
  else s.raise (.boundsError (offValue s.cfg off) xs.length)

/-- The shape of every `PW.WRITE` (R151, R180): bytes at the cursor, all or none; the cursor moves when they are stored. -/
def writeRaw (xs : List Byte) (s : State) : State :=
  if inRange s.pw.cur xs.length s.pw.len then
    (s.withPw { storeAt s.pw s.pw.cur xs with cur := s.pw.cur + xs.length }).ok
  else s.raise (.boundsError s.pw.cur xs.length)

/-- A scalar `PW.POKE` (R150). -/
def pokeScalar (t : FieldType) (off : Word32) (val : Nat) (s : State) : State :=
  needObject s.pw.valid s fun s => pokeRaw off (fieldBytes t val) s

/-- A scalar `PW.WRITE` (R151). -/
def writeScalar (t : FieldType) (val : Nat) (s : State) : State :=
  needObject s.pw.valid s fun s => writeRaw (fieldBytes t val) s

/-- `PW.NEW n` (R152). -/
def pwNewOp (n : Word32) (s : State) : State :=
  needLength n.toNat s fun s => (s.withPw ⟨true, zeroBytes n.toNat, 0⟩).ok

/-- `PW.POKE.BYTES off, n, data` (R166). -/
def pokeBytes (off : Word32) (data : List Byte) (s : State) : State :=
  needObject s.pw.valid s fun s => needLength data.length s fun s => pokeRaw off data s

/-- `PW.WRITE.BYTES n, data` (R180). -/
def writeBytes (data : List Byte) (s : State) : State :=
  needObject s.pw.valid s fun s => needLength data.length s fun s => writeRaw data s

/-- `PW.NEW` (R152). -/
def execPwNew (n : Word32) (s : State) : Host.Outcome State Fault Refusal :=
  .next (pwNewOp n s)

/-- `PW.POKE.U8` (R153). -/
def execPwPokeU8 (off : Word32) (val : BitVec 8) (s : State) : Host.Outcome State Fault Refusal :=
  .next (pokeScalar .u8 off val.toNat s)

/-- `PW.POKE.S8` (R154). -/
def execPwPokeS8 (off : Word32) (val : BitVec 8) (s : State) : Host.Outcome State Fault Refusal :=
  .next (pokeScalar .s8 off val.toNat s)

/-- `PW.POKE.U16LE` (R155). -/
def execPwPokeU16LE (off : Word32) (val : BitVec 16) (s : State) : Host.Outcome State Fault Refusal :=
  .next (pokeScalar .u16le off val.toNat s)

/-- `PW.POKE.S16LE` (R156). -/
def execPwPokeS16LE (off : Word32) (val : BitVec 16) (s : State) : Host.Outcome State Fault Refusal :=
  .next (pokeScalar .s16le off val.toNat s)

/-- `PW.POKE.U16BE` (R157). -/
def execPwPokeU16BE (off : Word32) (val : BitVec 16) (s : State) : Host.Outcome State Fault Refusal :=
  .next (pokeScalar .u16be off val.toNat s)

/-- `PW.POKE.S16BE` (R158). -/
def execPwPokeS16BE (off : Word32) (val : BitVec 16) (s : State) : Host.Outcome State Fault Refusal :=
  .next (pokeScalar .s16be off val.toNat s)

/-- `PW.POKE.U32LE` (R159). -/
def execPwPokeU32LE (off : Word32) (val : BitVec 32) (s : State) : Host.Outcome State Fault Refusal :=
  .next (pokeScalar .u32le off val.toNat s)

/-- `PW.POKE.S32LE` (R160). -/
def execPwPokeS32LE (off : Word32) (val : BitVec 32) (s : State) : Host.Outcome State Fault Refusal :=
  .next (pokeScalar .s32le off val.toNat s)

/-- `PW.POKE.U32BE` (R161). -/
def execPwPokeU32BE (off : Word32) (val : BitVec 32) (s : State) : Host.Outcome State Fault Refusal :=
  .next (pokeScalar .u32be off val.toNat s)

/-- `PW.POKE.S32BE` (R162). -/
def execPwPokeS32BE (off : Word32) (val : BitVec 32) (s : State) : Host.Outcome State Fault Refusal :=
  .next (pokeScalar .s32be off val.toNat s)

/-- `PW.POKE.F32` (R163). -/
def execPwPokeF32 (off : Word32) (val : BitVec 32) (s : State) : Host.Outcome State Fault Refusal :=
  .next (pokeScalar .f32 off val.toNat s)

/-- `PW.POKE.F64` (R164). -/
def execPwPokeF64 (off : Word32) (val : BitVec 64) (s : State) : Host.Outcome State Fault Refusal :=
  .next (pokeScalar .f64 off val.toNat s)

/-- `PW.POKE.CHAR` (R165). -/
def execPwPokeChar (off : Word32) (val : BitVec 8) (s : State) : Host.Outcome State Fault Refusal :=
  .next (pokeScalar .char off val.toNat s)

/-- `PW.POKE.BYTES` (R166). -/
def execPwPokeBytes (off : Word32) (data : List Byte) (s : State) : Host.Outcome State Fault Refusal :=
  .next (pokeBytes off data s)

/-- `PW.WRITE.U8` (R167). -/
def execPwWriteU8 (val : BitVec 8) (s : State) : Host.Outcome State Fault Refusal :=
  .next (writeScalar .u8 val.toNat s)

/-- `PW.WRITE.S8` (R168). -/
def execPwWriteS8 (val : BitVec 8) (s : State) : Host.Outcome State Fault Refusal :=
  .next (writeScalar .s8 val.toNat s)

/-- `PW.WRITE.U16LE` (R169). -/
def execPwWriteU16LE (val : BitVec 16) (s : State) : Host.Outcome State Fault Refusal :=
  .next (writeScalar .u16le val.toNat s)

/-- `PW.WRITE.S16LE` (R170). -/
def execPwWriteS16LE (val : BitVec 16) (s : State) : Host.Outcome State Fault Refusal :=
  .next (writeScalar .s16le val.toNat s)

/-- `PW.WRITE.U16BE` (R171). -/
def execPwWriteU16BE (val : BitVec 16) (s : State) : Host.Outcome State Fault Refusal :=
  .next (writeScalar .u16be val.toNat s)

/-- `PW.WRITE.S16BE` (R172). -/
def execPwWriteS16BE (val : BitVec 16) (s : State) : Host.Outcome State Fault Refusal :=
  .next (writeScalar .s16be val.toNat s)

/-- `PW.WRITE.U32LE` (R173). -/
def execPwWriteU32LE (val : BitVec 32) (s : State) : Host.Outcome State Fault Refusal :=
  .next (writeScalar .u32le val.toNat s)

/-- `PW.WRITE.S32LE` (R174). -/
def execPwWriteS32LE (val : BitVec 32) (s : State) : Host.Outcome State Fault Refusal :=
  .next (writeScalar .s32le val.toNat s)

/-- `PW.WRITE.U32BE` (R175). -/
def execPwWriteU32BE (val : BitVec 32) (s : State) : Host.Outcome State Fault Refusal :=
  .next (writeScalar .u32be val.toNat s)

/-- `PW.WRITE.S32BE` (R176). -/
def execPwWriteS32BE (val : BitVec 32) (s : State) : Host.Outcome State Fault Refusal :=
  .next (writeScalar .s32be val.toNat s)

/-- `PW.WRITE.F32` (R177). -/
def execPwWriteF32 (val : BitVec 32) (s : State) : Host.Outcome State Fault Refusal :=
  .next (writeScalar .f32 val.toNat s)

/-- `PW.WRITE.F64` (R178). -/
def execPwWriteF64 (val : BitVec 64) (s : State) : Host.Outcome State Fault Refusal :=
  .next (writeScalar .f64 val.toNat s)

/-- `PW.WRITE.CHAR` (R179). -/
def execPwWriteChar (val : BitVec 8) (s : State) : Host.Outcome State Fault Refusal :=
  .next (writeScalar .char val.toNat s)

/-- `PW.WRITE.BYTES` (R180). -/
def execPwWriteBytes (data : List Byte) (s : State) : Host.Outcome State Fault Refusal :=
  .next (writeBytes data s)

end Sys2Proof.Machine
end

