-- ==== Sys2Proof/Syntax.lean ====
section
/-! DEFINITION. The abstract syntax: one constructor per row of spec/opcode_table.json (30_encoding.md R75). -/

namespace Sys2Proof

/-- The 79 commands. An operand `n` that counts a `data` operand is the length of `data` (R72, R85); every other operand is
the bit pattern of R73: `off` is read as signed, `n` and `ceiling` as unsigned, `val` is the uninterpreted pattern. -/
inductive Instr where
  /-- `CKS.NEW`, opcode 0x10, format Z (R101). -/
  | cksNew
  /-- `CKS.UPDATE8`, opcode 0x11, format I8 (R102). -/
  | cksUpdate8 (imm : Byte)
  /-- `CKS.UPDATE16`, opcode 0x12, format I16 (R103). -/
  | cksUpdate16 (imm : BitVec 16)
  /-- `CKS.GET`, opcode 0x13, format Z (R104). -/
  | cksGet
  /-- `PR.PEEK.U8`, opcode 0x40, format O (R113). -/
  | prPeekU8 (off : Word32)
  /-- `PR.PEEK.S8`, opcode 0x41, format O (R114). -/
  | prPeekS8 (off : Word32)
  /-- `PR.PEEK.U16LE`, opcode 0x42, format O (R115). -/
  | prPeekU16LE (off : Word32)
  /-- `PR.PEEK.S16LE`, opcode 0x43, format O (R116). -/
  | prPeekS16LE (off : Word32)
  /-- `PR.PEEK.U16BE`, opcode 0x44, format O (R117). -/
  | prPeekU16BE (off : Word32)
  /-- `PR.PEEK.S16BE`, opcode 0x45, format O (R118). -/
  | prPeekS16BE (off : Word32)
  /-- `PR.PEEK.U32LE`, opcode 0x46, format O (R119). -/
  | prPeekU32LE (off : Word32)
  /-- `PR.PEEK.S32LE`, opcode 0x47, format O (R120). -/
  | prPeekS32LE (off : Word32)
  /-- `PR.PEEK.U32BE`, opcode 0x48, format O (R121). -/
  | prPeekU32BE (off : Word32)
  /-- `PR.PEEK.S32BE`, opcode 0x49, format O (R122). -/
  | prPeekS32BE (off : Word32)
  /-- `PR.PEEK.F32`, opcode 0x4A, format O (R123). -/
  | prPeekF32 (off : Word32)
  /-- `PR.PEEK.F64`, opcode 0x4B, format O (R124). -/
  | prPeekF64 (off : Word32)
  /-- `PR.PEEK.CHAR`, opcode 0x4C, format O (R125). -/
  | prPeekChar (off : Word32)
  /-- `PR.PEEK.BYTES`, opcode 0x4D, format ON (R126). -/
  | prPeekBytes (off : Word32) (n : Word32)
  /-- `PR.READ.U8`, opcode 0x50, format Z (R127). -/
  | prReadU8
  /-- `PR.READ.S8`, opcode 0x51, format Z (R128). -/
  | prReadS8
  /-- `PR.READ.U16LE`, opcode 0x52, format Z (R129). -/
  | prReadU16LE
  /-- `PR.READ.S16LE`, opcode 0x53, format Z (R130). -/
  | prReadS16LE
  /-- `PR.READ.U16BE`, opcode 0x54, format Z (R131). -/
  | prReadU16BE
  /-- `PR.READ.S16BE`, opcode 0x55, format Z (R132). -/
  | prReadS16BE
  /-- `PR.READ.U32LE`, opcode 0x56, format Z (R133). -/
  | prReadU32LE
  /-- `PR.READ.S32LE`, opcode 0x57, format Z (R134). -/
  | prReadS32LE
  /-- `PR.READ.U32BE`, opcode 0x58, format Z (R135). -/
  | prReadU32BE
  /-- `PR.READ.S32BE`, opcode 0x59, format Z (R136). -/
  | prReadS32BE
  /-- `PR.READ.F32`, opcode 0x5A, format Z (R137). -/
  | prReadF32
  /-- `PR.READ.F64`, opcode 0x5B, format Z (R138). -/
  | prReadF64
  /-- `PR.READ.CHAR`, opcode 0x5C, format Z (R139). -/
  | prReadChar
  /-- `PR.READ.BYTES`, opcode 0x5D, format N (R140). -/
  | prReadBytes (n : Word32)
  /-- `PR.NEW`, opcode 0x60, format B (R112). -/
  | prNew (data : List Byte)
  /-- `PW.POKE.U8`, opcode 0x80, format OV (R153). -/
  | pwPokeU8 (off : Word32) (val : BitVec 8)
  /-- `PW.POKE.S8`, opcode 0x81, format OV (R154). -/
  | pwPokeS8 (off : Word32) (val : BitVec 8)
  /-- `PW.POKE.U16LE`, opcode 0x82, format OV (R155). -/
  | pwPokeU16LE (off : Word32) (val : BitVec 16)
  /-- `PW.POKE.S16LE`, opcode 0x83, format OV (R156). -/
  | pwPokeS16LE (off : Word32) (val : BitVec 16)
  /-- `PW.POKE.U16BE`, opcode 0x84, format OV (R157). -/
  | pwPokeU16BE (off : Word32) (val : BitVec 16)
  /-- `PW.POKE.S16BE`, opcode 0x85, format OV (R158). -/
  | pwPokeS16BE (off : Word32) (val : BitVec 16)
  /-- `PW.POKE.U32LE`, opcode 0x86, format OV (R159). -/
  | pwPokeU32LE (off : Word32) (val : BitVec 32)
  /-- `PW.POKE.S32LE`, opcode 0x87, format OV (R160). -/
  | pwPokeS32LE (off : Word32) (val : BitVec 32)
  /-- `PW.POKE.U32BE`, opcode 0x88, format OV (R161). -/
  | pwPokeU32BE (off : Word32) (val : BitVec 32)
  /-- `PW.POKE.S32BE`, opcode 0x89, format OV (R162). -/
  | pwPokeS32BE (off : Word32) (val : BitVec 32)
  /-- `PW.POKE.F32`, opcode 0x8A, format OV (R163). -/
  | pwPokeF32 (off : Word32) (val : BitVec 32)
  /-- `PW.POKE.F64`, opcode 0x8B, format OV (R164). -/
  | pwPokeF64 (off : Word32) (val : BitVec 64)
  /-- `PW.POKE.CHAR`, opcode 0x8C, format OV (R165). -/
  | pwPokeChar (off : Word32) (val : BitVec 8)
  /-- `PW.POKE.BYTES`, opcode 0x8D, format OB (R166). -/
  | pwPokeBytes (off : Word32) (data : List Byte)
  /-- `PW.WRITE.U8`, opcode 0x90, format V (R167). -/
  | pwWriteU8 (val : BitVec 8)
  /-- `PW.WRITE.S8`, opcode 0x91, format V (R168). -/
  | pwWriteS8 (val : BitVec 8)
  /-- `PW.WRITE.U16LE`, opcode 0x92, format V (R169). -/
  | pwWriteU16LE (val : BitVec 16)
  /-- `PW.WRITE.S16LE`, opcode 0x93, format V (R170). -/
  | pwWriteS16LE (val : BitVec 16)
  /-- `PW.WRITE.U16BE`, opcode 0x94, format V (R171). -/
  | pwWriteU16BE (val : BitVec 16)
  /-- `PW.WRITE.S16BE`, opcode 0x95, format V (R172). -/
  | pwWriteS16BE (val : BitVec 16)
  /-- `PW.WRITE.U32LE`, opcode 0x96, format V (R173). -/
  | pwWriteU32LE (val : BitVec 32)
  /-- `PW.WRITE.S32LE`, opcode 0x97, format V (R174). -/
  | pwWriteS32LE (val : BitVec 32)
  /-- `PW.WRITE.U32BE`, opcode 0x98, format V (R175). -/
  | pwWriteU32BE (val : BitVec 32)
  /-- `PW.WRITE.S32BE`, opcode 0x99, format V (R176). -/
  | pwWriteS32BE (val : BitVec 32)
  /-- `PW.WRITE.F32`, opcode 0x9A, format V (R177). -/
  | pwWriteF32 (val : BitVec 32)
  /-- `PW.WRITE.F64`, opcode 0x9B, format V (R178). -/
  | pwWriteF64 (val : BitVec 64)
  /-- `PW.WRITE.CHAR`, opcode 0x9C, format V (R179). -/
  | pwWriteChar (val : BitVec 8)
  /-- `PW.WRITE.BYTES`, opcode 0x9D, format B (R180). -/
  | pwWriteBytes (data : List Byte)
  /-- `PW.NEW`, opcode 0xA0, format N (R152). -/
  | pwNew (n : Word32)
  /-- `FRM.NEW`, opcode 0xC0, format F (R191). -/
  | frmNew (cls : Byte) (id : Byte) (data : List Byte)
  /-- `FRM.SERIALIZE`, opcode 0xC1, format Z (R193). -/
  | frmSerialize
  /-- `FRM.CHECKSUM`, opcode 0xC2, format Z (R194). -/
  | frmChecksum
  /-- `FRM.DESERIALIZE`, opcode 0xC3, format B (R195). -/
  | frmDeserialize (data : List Byte)
  /-- `TXN.NEW`, opcode 0xD0, format Z (R211). -/
  | txnNew
  /-- `TXN.WITH`, opcode 0xD1, format A (R213). -/
  | txnWith (addr : Byte)
  /-- `TXN.WRITE`, opcode 0xD2, format AB (R214). -/
  | txnWrite (addr : Byte) (data : List Byte)
  /-- `TXN.READ`, opcode 0xD3, format AN (R215). -/
  | txnRead (addr : Byte) (n : Word32)
  /-- `TXN.WRITED`, opcode 0xD4, format B (R216). -/
  | txnWrited (data : List Byte)
  /-- `TXN.READD`, opcode 0xD5, format N (R217). -/
  | txnReadd (n : Word32)
  /-- `TXN.BUILD`, opcode 0xD6, format Z (R218). -/
  | txnBuild
  /-- `BUS.OPEN`, opcode 0xD8, format Z (R226). -/
  | busOpen
  /-- `BUS.CLOSE`, opcode 0xD9, format Z (R227). -/
  | busClose
  /-- `BUS.SUBMIT`, opcode 0xDA, format Z (R228). -/
  | busSubmit
  /-- `TP.CONFIG`, opcode 0xE0, format C (R251). -/
  | tpConfig (addr : Byte) (ceiling : Word32)
  /-- `TP.SEND`, opcode 0xE1, format Z (R252). -/
  | tpSend
  /-- `TP.POLL`, opcode 0xE2, format Z (R254). -/
  | tpPoll
deriving DecidableEq, Repr

/-- The mnemonic of a command (R75). -/
def Instr.mnemonic : Instr → String
  | .cksNew => "CKS.NEW"
  | .cksUpdate8 _ => "CKS.UPDATE8"
  | .cksUpdate16 _ => "CKS.UPDATE16"
  | .cksGet => "CKS.GET"
  | .prPeekU8 _ => "PR.PEEK.U8"
  | .prPeekS8 _ => "PR.PEEK.S8"
  | .prPeekU16LE _ => "PR.PEEK.U16LE"
  | .prPeekS16LE _ => "PR.PEEK.S16LE"
  | .prPeekU16BE _ => "PR.PEEK.U16BE"
  | .prPeekS16BE _ => "PR.PEEK.S16BE"
  | .prPeekU32LE _ => "PR.PEEK.U32LE"
  | .prPeekS32LE _ => "PR.PEEK.S32LE"
  | .prPeekU32BE _ => "PR.PEEK.U32BE"
  | .prPeekS32BE _ => "PR.PEEK.S32BE"
  | .prPeekF32 _ => "PR.PEEK.F32"
  | .prPeekF64 _ => "PR.PEEK.F64"
  | .prPeekChar _ => "PR.PEEK.CHAR"
  | .prPeekBytes _ _ => "PR.PEEK.BYTES"
  | .prReadU8 => "PR.READ.U8"
  | .prReadS8 => "PR.READ.S8"
  | .prReadU16LE => "PR.READ.U16LE"
  | .prReadS16LE => "PR.READ.S16LE"
  | .prReadU16BE => "PR.READ.U16BE"
  | .prReadS16BE => "PR.READ.S16BE"
  | .prReadU32LE => "PR.READ.U32LE"
  | .prReadS32LE => "PR.READ.S32LE"
  | .prReadU32BE => "PR.READ.U32BE"
  | .prReadS32BE => "PR.READ.S32BE"
  | .prReadF32 => "PR.READ.F32"
  | .prReadF64 => "PR.READ.F64"
  | .prReadChar => "PR.READ.CHAR"
  | .prReadBytes _ => "PR.READ.BYTES"
  | .prNew _ => "PR.NEW"
  | .pwPokeU8 _ _ => "PW.POKE.U8"
  | .pwPokeS8 _ _ => "PW.POKE.S8"
  | .pwPokeU16LE _ _ => "PW.POKE.U16LE"
  | .pwPokeS16LE _ _ => "PW.POKE.S16LE"
  | .pwPokeU16BE _ _ => "PW.POKE.U16BE"
  | .pwPokeS16BE _ _ => "PW.POKE.S16BE"
  | .pwPokeU32LE _ _ => "PW.POKE.U32LE"
  | .pwPokeS32LE _ _ => "PW.POKE.S32LE"
  | .pwPokeU32BE _ _ => "PW.POKE.U32BE"
  | .pwPokeS32BE _ _ => "PW.POKE.S32BE"
  | .pwPokeF32 _ _ => "PW.POKE.F32"
  | .pwPokeF64 _ _ => "PW.POKE.F64"
  | .pwPokeChar _ _ => "PW.POKE.CHAR"
  | .pwPokeBytes _ _ => "PW.POKE.BYTES"
  | .pwWriteU8 _ => "PW.WRITE.U8"
  | .pwWriteS8 _ => "PW.WRITE.S8"
  | .pwWriteU16LE _ => "PW.WRITE.U16LE"
  | .pwWriteS16LE _ => "PW.WRITE.S16LE"
  | .pwWriteU16BE _ => "PW.WRITE.U16BE"
  | .pwWriteS16BE _ => "PW.WRITE.S16BE"
  | .pwWriteU32LE _ => "PW.WRITE.U32LE"
  | .pwWriteS32LE _ => "PW.WRITE.S32LE"
  | .pwWriteU32BE _ => "PW.WRITE.U32BE"
  | .pwWriteS32BE _ => "PW.WRITE.S32BE"
  | .pwWriteF32 _ => "PW.WRITE.F32"
  | .pwWriteF64 _ => "PW.WRITE.F64"
  | .pwWriteChar _ => "PW.WRITE.CHAR"
  | .pwWriteBytes _ => "PW.WRITE.BYTES"
  | .pwNew _ => "PW.NEW"
  | .frmNew _ _ _ => "FRM.NEW"
  | .frmSerialize => "FRM.SERIALIZE"
  | .frmChecksum => "FRM.CHECKSUM"
  | .frmDeserialize _ => "FRM.DESERIALIZE"
  | .txnNew => "TXN.NEW"
  | .txnWith _ => "TXN.WITH"
  | .txnWrite _ _ => "TXN.WRITE"
  | .txnRead _ _ => "TXN.READ"
  | .txnWrited _ => "TXN.WRITED"
  | .txnReadd _ => "TXN.READD"
  | .txnBuild => "TXN.BUILD"
  | .busOpen => "BUS.OPEN"
  | .busClose => "BUS.CLOSE"
  | .busSubmit => "BUS.SUBMIT"
  | .tpConfig _ _ => "TP.CONFIG"
  | .tpSend => "TP.SEND"
  | .tpPoll => "TP.POLL"

end Sys2Proof
end

