-- ==== Sys2Proof/Machine/Dispatch.lean ====
section
/-! DEFINITION. exec: one arm per command, each one call of its meaning. -/

namespace Sys2Proof.Machine

def exec (i : Instr) (s : State) : Host.Outcome State Fault Refusal :=
  match i with
  | .cksNew => Sys2Proof.Machine.execCksNew s
  | .cksUpdate8 imm => Sys2Proof.Machine.execCksUpdate8 imm s
  | .cksUpdate16 imm => Sys2Proof.Machine.execCksUpdate16 imm s
  | .cksGet => Sys2Proof.Machine.execCksGet s
  | .prPeekU8 off => Sys2Proof.Machine.execPrPeekU8 off s
  | .prPeekS8 off => Sys2Proof.Machine.execPrPeekS8 off s
  | .prPeekU16LE off => Sys2Proof.Machine.execPrPeekU16LE off s
  | .prPeekS16LE off => Sys2Proof.Machine.execPrPeekS16LE off s
  | .prPeekU16BE off => Sys2Proof.Machine.execPrPeekU16BE off s
  | .prPeekS16BE off => Sys2Proof.Machine.execPrPeekS16BE off s
  | .prPeekU32LE off => Sys2Proof.Machine.execPrPeekU32LE off s
  | .prPeekS32LE off => Sys2Proof.Machine.execPrPeekS32LE off s
  | .prPeekU32BE off => Sys2Proof.Machine.execPrPeekU32BE off s
  | .prPeekS32BE off => Sys2Proof.Machine.execPrPeekS32BE off s
  | .prPeekF32 off => Sys2Proof.Machine.execPrPeekF32 off s
  | .prPeekF64 off => Sys2Proof.Machine.execPrPeekF64 off s
  | .prPeekChar off => Sys2Proof.Machine.execPrPeekChar off s
  | .prPeekBytes off n => Sys2Proof.Machine.execPrPeekBytes off n s
  | .prReadU8 => Sys2Proof.Machine.execPrReadU8 s
  | .prReadS8 => Sys2Proof.Machine.execPrReadS8 s
  | .prReadU16LE => Sys2Proof.Machine.execPrReadU16LE s
  | .prReadS16LE => Sys2Proof.Machine.execPrReadS16LE s
  | .prReadU16BE => Sys2Proof.Machine.execPrReadU16BE s
  | .prReadS16BE => Sys2Proof.Machine.execPrReadS16BE s
  | .prReadU32LE => Sys2Proof.Machine.execPrReadU32LE s
  | .prReadS32LE => Sys2Proof.Machine.execPrReadS32LE s
  | .prReadU32BE => Sys2Proof.Machine.execPrReadU32BE s
  | .prReadS32BE => Sys2Proof.Machine.execPrReadS32BE s
  | .prReadF32 => Sys2Proof.Machine.execPrReadF32 s
  | .prReadF64 => Sys2Proof.Machine.execPrReadF64 s
  | .prReadChar => Sys2Proof.Machine.execPrReadChar s
  | .prReadBytes n => Sys2Proof.Machine.execPrReadBytes n s
  | .prNew data => Sys2Proof.Machine.execPrNew data s
  | .pwPokeU8 off val => Sys2Proof.Machine.execPwPokeU8 off val s
  | .pwPokeS8 off val => Sys2Proof.Machine.execPwPokeS8 off val s
  | .pwPokeU16LE off val => Sys2Proof.Machine.execPwPokeU16LE off val s
  | .pwPokeS16LE off val => Sys2Proof.Machine.execPwPokeS16LE off val s
  | .pwPokeU16BE off val => Sys2Proof.Machine.execPwPokeU16BE off val s
  | .pwPokeS16BE off val => Sys2Proof.Machine.execPwPokeS16BE off val s
  | .pwPokeU32LE off val => Sys2Proof.Machine.execPwPokeU32LE off val s
  | .pwPokeS32LE off val => Sys2Proof.Machine.execPwPokeS32LE off val s
  | .pwPokeU32BE off val => Sys2Proof.Machine.execPwPokeU32BE off val s
  | .pwPokeS32BE off val => Sys2Proof.Machine.execPwPokeS32BE off val s
  | .pwPokeF32 off val => Sys2Proof.Machine.execPwPokeF32 off val s
  | .pwPokeF64 off val => Sys2Proof.Machine.execPwPokeF64 off val s
  | .pwPokeChar off val => Sys2Proof.Machine.execPwPokeChar off val s
  | .pwPokeBytes off data => Sys2Proof.Machine.execPwPokeBytes off data s
  | .pwWriteU8 val => Sys2Proof.Machine.execPwWriteU8 val s
  | .pwWriteS8 val => Sys2Proof.Machine.execPwWriteS8 val s
  | .pwWriteU16LE val => Sys2Proof.Machine.execPwWriteU16LE val s
  | .pwWriteS16LE val => Sys2Proof.Machine.execPwWriteS16LE val s
  | .pwWriteU16BE val => Sys2Proof.Machine.execPwWriteU16BE val s
  | .pwWriteS16BE val => Sys2Proof.Machine.execPwWriteS16BE val s
  | .pwWriteU32LE val => Sys2Proof.Machine.execPwWriteU32LE val s
  | .pwWriteS32LE val => Sys2Proof.Machine.execPwWriteS32LE val s
  | .pwWriteU32BE val => Sys2Proof.Machine.execPwWriteU32BE val s
  | .pwWriteS32BE val => Sys2Proof.Machine.execPwWriteS32BE val s
  | .pwWriteF32 val => Sys2Proof.Machine.execPwWriteF32 val s
  | .pwWriteF64 val => Sys2Proof.Machine.execPwWriteF64 val s
  | .pwWriteChar val => Sys2Proof.Machine.execPwWriteChar val s
  | .pwWriteBytes data => Sys2Proof.Machine.execPwWriteBytes data s
  | .pwNew n => Sys2Proof.Machine.execPwNew n s
  | .frmNew cls id data => Sys2Proof.Machine.execFrmNew cls id data s
  | .frmSerialize => Sys2Proof.Machine.execFrmSerialize s
  | .frmChecksum => Sys2Proof.Machine.execFrmChecksum s
  | .frmDeserialize data => Sys2Proof.Machine.execFrmDeserialize data s
  | .txnNew => Sys2Proof.Machine.execTxnNew s
  | .txnWith addr => Sys2Proof.Machine.execTxnWith addr s
  | .txnWrite addr data => Sys2Proof.Machine.execTxnWrite addr data s
  | .txnRead addr n => Sys2Proof.Machine.execTxnRead addr n s
  | .txnWrited data => Sys2Proof.Machine.execTxnWrited data s
  | .txnReadd n => Sys2Proof.Machine.execTxnReadd n s
  | .txnBuild => Sys2Proof.Machine.execTxnBuild s
  | .busOpen => Sys2Proof.Machine.execBusOpen s
  | .busClose => Sys2Proof.Machine.execBusClose s
  | .busSubmit => Sys2Proof.Machine.execBusSubmit s
  | .tpConfig addr ceiling => Sys2Proof.Machine.execTpConfig addr ceiling s
  | .tpSend => Sys2Proof.Machine.execTpSend s
  | .tpPoll => Sys2Proof.Machine.execTpPoll s

end Sys2Proof.Machine
end

