-- ==== Sys2Proof/Decode.lean ====
section
/-! DEFINITION. The decoder and the encoder of the command stream (30_encoding.md R70 to R77), one function per format
of R72 in each direction, and the host's `decodeTableWord`. -/

namespace Sys2Proof

open Sys2Proof.Machine

/-- What decoding the bytes of a hand-over gives: a command with the bytes after it, or a rejection by name (R76, R77). -/
inductive DecodeResult where
  /-- A complete command and the bytes after it (R77: they belong to the next command). -/
  | command (i : Instr) (rest : List Byte)
  /-- The opcode byte is one of the 177 of R76. -/
  | unknownOpcode
  /-- The bytes end before the format is complete (R77). -/
  | truncated
deriving DecidableEq, Repr

/-- A format's operands read from the bytes after the opcode: the command and what follows, or nothing where they end early. -/
abbrev Parse := Option (Instr × List Byte)

/-! Reading one operand (R73). -/

/-- The `w`-byte little-endian number at the head of the bytes. -/
def takeLe (w : Nat) (bs : List Byte) : Option (Nat × List Byte) :=
  if w ≤ bs.length then some (ofLe (bs.take w), bs.drop w) else none

/-- A `bits`-bit operand, little-endian (R57, R73). -/
def takeBits (bits : Nat) (bs : List Byte) : Option (BitVec bits × List Byte) :=
  (takeLe (bits / 8) bs).map fun p => (BitVec.ofNat bits p.1, p.2)

/-- An `n` field and the `n` data bytes after it (R72, R73). -/
def takeData (bs : List Byte) : Option (List Byte × List Byte) :=
  (takeLe 4 bs).bind fun p => if p.1 ≤ p.2.length then some (p.2.take p.1, p.2.drop p.1) else none

/-! The formats of R72. -/

/-- Format Z: no operand. -/
def argZ (i : Instr) (bs : List Byte) : Parse := some (i, bs)

/-- Formats I8, I16, O, N, V, A: one operand of `bits` bits. -/
def argV (bits : Nat) (f : BitVec bits → Instr) (bs : List Byte) : Parse :=
  (takeBits bits bs).map fun p => (f p.1, p.2)

/-- Formats ON, OV, AN, C: an operand of `bits` bits and then one of `bits'` bits. -/
def argVV (bits bits' : Nat) (f : BitVec bits → BitVec bits' → Instr) (bs : List Byte) : Parse :=
  (takeBits bits bs).bind fun p => argV bits' (f p.1) p.2

/-- Format B: `n` and `data`. -/
def argB (f : List Byte → Instr) (bs : List Byte) : Parse :=
  (takeData bs).map fun p => (f p.1, p.2)

/-- Formats OB, AB: one operand of `bits` bits, then `n` and `data`. -/
def argVB (bits : Nat) (f : BitVec bits → List Byte → Instr) (bs : List Byte) : Parse :=
  (takeBits bits bs).bind fun p => argB (f p.1) p.2

/-- Format F: `cls`, `id`, `n` and `data`. -/
def argF (f : Byte → Byte → List Byte → Instr) (bs : List Byte) : Parse :=
  (takeBits 8 bs).bind fun p => argVB 8 (f p.1) p.2

/-- A complete command, or `truncated` (R77). -/
def ofParse : Parse → DecodeResult
  | some (i, rest) => .command i rest
  | none => .truncated

/-- Decode the command after a given opcode byte (R75, R76). -/
def decodeOpcode (op : Nat) (bs : List Byte) : DecodeResult :=
  match op with
  | 0x10 => ofParse (argZ .cksNew bs)
  | 0x11 => ofParse (argV 8 .cksUpdate8 bs)
  | 0x12 => ofParse (argV 16 .cksUpdate16 bs)
  | 0x13 => ofParse (argZ .cksGet bs)
  | 0x40 => ofParse (argV 32 .prPeekU8 bs)
  | 0x41 => ofParse (argV 32 .prPeekS8 bs)
  | 0x42 => ofParse (argV 32 .prPeekU16LE bs)
  | 0x43 => ofParse (argV 32 .prPeekS16LE bs)
  | 0x44 => ofParse (argV 32 .prPeekU16BE bs)
  | 0x45 => ofParse (argV 32 .prPeekS16BE bs)
  | 0x46 => ofParse (argV 32 .prPeekU32LE bs)
  | 0x47 => ofParse (argV 32 .prPeekS32LE bs)
  | 0x48 => ofParse (argV 32 .prPeekU32BE bs)
  | 0x49 => ofParse (argV 32 .prPeekS32BE bs)
  | 0x4A => ofParse (argV 32 .prPeekF32 bs)
  | 0x4B => ofParse (argV 32 .prPeekF64 bs)
  | 0x4C => ofParse (argV 32 .prPeekChar bs)
  | 0x4D => ofParse (argVV 32 32 .prPeekBytes bs)
  | 0x50 => ofParse (argZ .prReadU8 bs)
  | 0x51 => ofParse (argZ .prReadS8 bs)
  | 0x52 => ofParse (argZ .prReadU16LE bs)
  | 0x53 => ofParse (argZ .prReadS16LE bs)
  | 0x54 => ofParse (argZ .prReadU16BE bs)
  | 0x55 => ofParse (argZ .prReadS16BE bs)
  | 0x56 => ofParse (argZ .prReadU32LE bs)
  | 0x57 => ofParse (argZ .prReadS32LE bs)
  | 0x58 => ofParse (argZ .prReadU32BE bs)
  | 0x59 => ofParse (argZ .prReadS32BE bs)
  | 0x5A => ofParse (argZ .prReadF32 bs)
  | 0x5B => ofParse (argZ .prReadF64 bs)
  | 0x5C => ofParse (argZ .prReadChar bs)
  | 0x5D => ofParse (argV 32 .prReadBytes bs)
  | 0x60 => ofParse (argB .prNew bs)
  | 0x80 => ofParse (argVV 32 8 .pwPokeU8 bs)
  | 0x81 => ofParse (argVV 32 8 .pwPokeS8 bs)
  | 0x82 => ofParse (argVV 32 16 .pwPokeU16LE bs)
  | 0x83 => ofParse (argVV 32 16 .pwPokeS16LE bs)
  | 0x84 => ofParse (argVV 32 16 .pwPokeU16BE bs)
  | 0x85 => ofParse (argVV 32 16 .pwPokeS16BE bs)
  | 0x86 => ofParse (argVV 32 32 .pwPokeU32LE bs)
  | 0x87 => ofParse (argVV 32 32 .pwPokeS32LE bs)
  | 0x88 => ofParse (argVV 32 32 .pwPokeU32BE bs)
  | 0x89 => ofParse (argVV 32 32 .pwPokeS32BE bs)
  | 0x8A => ofParse (argVV 32 32 .pwPokeF32 bs)
  | 0x8B => ofParse (argVV 32 64 .pwPokeF64 bs)
  | 0x8C => ofParse (argVV 32 8 .pwPokeChar bs)
  | 0x8D => ofParse (argVB 32 .pwPokeBytes bs)
  | 0x90 => ofParse (argV 8 .pwWriteU8 bs)
  | 0x91 => ofParse (argV 8 .pwWriteS8 bs)
  | 0x92 => ofParse (argV 16 .pwWriteU16LE bs)
  | 0x93 => ofParse (argV 16 .pwWriteS16LE bs)
  | 0x94 => ofParse (argV 16 .pwWriteU16BE bs)
  | 0x95 => ofParse (argV 16 .pwWriteS16BE bs)
  | 0x96 => ofParse (argV 32 .pwWriteU32LE bs)
  | 0x97 => ofParse (argV 32 .pwWriteS32LE bs)
  | 0x98 => ofParse (argV 32 .pwWriteU32BE bs)
  | 0x99 => ofParse (argV 32 .pwWriteS32BE bs)
  | 0x9A => ofParse (argV 32 .pwWriteF32 bs)
  | 0x9B => ofParse (argV 64 .pwWriteF64 bs)
  | 0x9C => ofParse (argV 8 .pwWriteChar bs)
  | 0x9D => ofParse (argB .pwWriteBytes bs)
  | 0xA0 => ofParse (argV 32 .pwNew bs)
  | 0xC0 => ofParse (argF .frmNew bs)
  | 0xC1 => ofParse (argZ .frmSerialize bs)
  | 0xC2 => ofParse (argZ .frmChecksum bs)
  | 0xC3 => ofParse (argB .frmDeserialize bs)
  | 0xD0 => ofParse (argZ .txnNew bs)
  | 0xD1 => ofParse (argV 8 .txnWith bs)
  | 0xD2 => ofParse (argVB 8 .txnWrite bs)
  | 0xD3 => ofParse (argVV 8 32 .txnRead bs)
  | 0xD4 => ofParse (argB .txnWrited bs)
  | 0xD5 => ofParse (argV 32 .txnReadd bs)
  | 0xD6 => ofParse (argZ .txnBuild bs)
  | 0xD8 => ofParse (argZ .busOpen bs)
  | 0xD9 => ofParse (argZ .busClose bs)
  | 0xDA => ofParse (argZ .busSubmit bs)
  | 0xE0 => ofParse (argVV 8 32 .tpConfig bs)
  | 0xE1 => ofParse (argZ .tpSend bs)
  | 0xE2 => ofParse (argZ .tpPoll bs)
  | _ => .unknownOpcode

/-- Decode the first command of a hand-over (R70). No opcode byte at all is a command cut short (R77). -/
def decode : List Byte → DecodeResult
  | [] => .truncated
  | op :: bs => decodeOpcode op.toNat bs

/-! The encoder, from the same tables (R72, R73, R75). -/

/-- A `bits`-bit operand, little-endian (R57). -/
def putBits (bits : Nat) (v : BitVec bits) : List Byte := leBytes (bits / 8) v.toNat

/-- The `n` field and the data bytes. -/
def putData (data : List Byte) : List Byte := leBytes 4 data.length ++ data

/-- The bytes of a command (R70): of the well-formed command `i`, the bytes that decode to it. -/
def encode : Instr → List Byte
  | .cksNew => [0x10]
  | .cksUpdate8 imm => 0x11 :: (putBits 8 imm)
  | .cksUpdate16 imm => 0x12 :: (putBits 16 imm)
  | .cksGet => [0x13]
  | .prPeekU8 off => 0x40 :: (putBits 32 off)
  | .prPeekS8 off => 0x41 :: (putBits 32 off)
  | .prPeekU16LE off => 0x42 :: (putBits 32 off)
  | .prPeekS16LE off => 0x43 :: (putBits 32 off)
  | .prPeekU16BE off => 0x44 :: (putBits 32 off)
  | .prPeekS16BE off => 0x45 :: (putBits 32 off)
  | .prPeekU32LE off => 0x46 :: (putBits 32 off)
  | .prPeekS32LE off => 0x47 :: (putBits 32 off)
  | .prPeekU32BE off => 0x48 :: (putBits 32 off)
  | .prPeekS32BE off => 0x49 :: (putBits 32 off)
  | .prPeekF32 off => 0x4A :: (putBits 32 off)
  | .prPeekF64 off => 0x4B :: (putBits 32 off)
  | .prPeekChar off => 0x4C :: (putBits 32 off)
  | .prPeekBytes off n => 0x4D :: (putBits 32 off ++ putBits 32 n)
  | .prReadU8 => [0x50]
  | .prReadS8 => [0x51]
  | .prReadU16LE => [0x52]
  | .prReadS16LE => [0x53]
  | .prReadU16BE => [0x54]
  | .prReadS16BE => [0x55]
  | .prReadU32LE => [0x56]
  | .prReadS32LE => [0x57]
  | .prReadU32BE => [0x58]
  | .prReadS32BE => [0x59]
  | .prReadF32 => [0x5A]
  | .prReadF64 => [0x5B]
  | .prReadChar => [0x5C]
  | .prReadBytes n => 0x5D :: (putBits 32 n)
  | .prNew data => 0x60 :: (putData data)
  | .pwPokeU8 off val => 0x80 :: (putBits 32 off ++ putBits 8 val)
  | .pwPokeS8 off val => 0x81 :: (putBits 32 off ++ putBits 8 val)
  | .pwPokeU16LE off val => 0x82 :: (putBits 32 off ++ putBits 16 val)
  | .pwPokeS16LE off val => 0x83 :: (putBits 32 off ++ putBits 16 val)
  | .pwPokeU16BE off val => 0x84 :: (putBits 32 off ++ putBits 16 val)
  | .pwPokeS16BE off val => 0x85 :: (putBits 32 off ++ putBits 16 val)
  | .pwPokeU32LE off val => 0x86 :: (putBits 32 off ++ putBits 32 val)
  | .pwPokeS32LE off val => 0x87 :: (putBits 32 off ++ putBits 32 val)
  | .pwPokeU32BE off val => 0x88 :: (putBits 32 off ++ putBits 32 val)
  | .pwPokeS32BE off val => 0x89 :: (putBits 32 off ++ putBits 32 val)
  | .pwPokeF32 off val => 0x8A :: (putBits 32 off ++ putBits 32 val)
  | .pwPokeF64 off val => 0x8B :: (putBits 32 off ++ putBits 64 val)
  | .pwPokeChar off val => 0x8C :: (putBits 32 off ++ putBits 8 val)
  | .pwPokeBytes off data => 0x8D :: (putBits 32 off ++ putData data)
  | .pwWriteU8 val => 0x90 :: (putBits 8 val)
  | .pwWriteS8 val => 0x91 :: (putBits 8 val)
  | .pwWriteU16LE val => 0x92 :: (putBits 16 val)
  | .pwWriteS16LE val => 0x93 :: (putBits 16 val)
  | .pwWriteU16BE val => 0x94 :: (putBits 16 val)
  | .pwWriteS16BE val => 0x95 :: (putBits 16 val)
  | .pwWriteU32LE val => 0x96 :: (putBits 32 val)
  | .pwWriteS32LE val => 0x97 :: (putBits 32 val)
  | .pwWriteU32BE val => 0x98 :: (putBits 32 val)
  | .pwWriteS32BE val => 0x99 :: (putBits 32 val)
  | .pwWriteF32 val => 0x9A :: (putBits 32 val)
  | .pwWriteF64 val => 0x9B :: (putBits 64 val)
  | .pwWriteChar val => 0x9C :: (putBits 8 val)
  | .pwWriteBytes data => 0x9D :: (putData data)
  | .pwNew n => 0xA0 :: (putBits 32 n)
  | .frmNew cls id data => 0xC0 :: (putBits 8 cls ++ putBits 8 id ++ putData data)
  | .frmSerialize => [0xC1]
  | .frmChecksum => [0xC2]
  | .frmDeserialize data => 0xC3 :: (putData data)
  | .txnNew => [0xD0]
  | .txnWith addr => 0xD1 :: (putBits 8 addr)
  | .txnWrite addr data => 0xD2 :: (putBits 8 addr ++ putData data)
  | .txnRead addr n => 0xD3 :: (putBits 8 addr ++ putBits 32 n)
  | .txnWrited data => 0xD4 :: (putData data)
  | .txnReadd n => 0xD5 :: (putBits 32 n)
  | .txnBuild => [0xD6]
  | .busOpen => [0xD8]
  | .busClose => [0xD9]
  | .busSubmit => [0xDA]
  | .tpConfig addr ceiling => 0xE0 :: (putBits 8 addr ++ putBits 32 ceiling)
  | .tpSend => [0xE1]
  | .tpPoll => [0xE2]

/-- The most bytes a command with no data has: `PW.POKE.F64`, an opcode, an offset and an 8-byte value (R72). -/
def longestFixed : Nat := 13

/-- The bytes of an opcode-table word: bit 0 is the least significant bit of the first byte, and every byte above `nbits`, up to
the longest command with no data, is 0 (so an `n` field reads 0 and no data byte is missing). -/
def tableBytes (nbits w : Nat) : List Byte := leBytes (nbits / 8) w ++ zeroBytes (longestFixed - nbits / 8)

/-- The command the decoder reads from an opcode-table word. -/
def decodeTableWord (nbits w : Nat) : Option Instr :=
  match decode (tableBytes nbits w) with
  | .command i _ => some i
  | _ => none

end Sys2Proof
end

