-- ==== Sys2Proof/Machine/Fetch.lean ====
section
/-! DEFINITION. Taking the next command from the host's hand-overs (30_encoding.md R70, R76, R77; log 2). -/

namespace Sys2Proof.Machine

/-- What the block finds where the host hands over commands. -/
inductive Fetch where
  /-- No command is there: the block waits for the host. -/
  | waiting
  /-- A complete command, and the state it runs in. -/
  | run (i : Instr) (s : State)
  /-- The bytes are no command: the reason, and the state with them gone. -/
  | reject (r : RefuseReason) (s : State)
deriving DecidableEq, Repr

/-- The hand-overs left when the command at the head of one has been taken: the bytes after it, if any, belong to the next
command (R77). -/
def leftOver (rest : List Byte) (more : List (List Byte)) : List (List Byte) := if rest = [] then more else rest :: more

/-- Take the next command. A hand-over that is no command is dropped whole. -/
def fetch (s : State) : Fetch :=
  match s.cmdIn with
  | [] => .waiting
  | bytes :: more =>
    match decode bytes with
    | .command i rest => .run i (s.withCmdIn (leftOver rest more))
    | .unknownOpcode => .reject .unknownOpcode (s.withCmdIn more)
    | .truncated => .reject .truncatedCommand (s.withCmdIn more)

/-- Put a hand-over in front of the others, with no call outstanding, so that the next fetch takes its command. -/
def handOver (s : State) (bytes : List Byte) : State :=
  (s.withCmdIn (bytes :: s.cmdIn)).withBus { s.bus with blocked := none }

end Sys2Proof.Machine
end

