-- ==== Sys2Proof/Machine/Step.lean ====
section
/-! DEFINITION. One step: one whole command (70_reset_and_hazards.md R334), or nothing while the host has handed over none. -/

namespace Sys2Proof.Machine

/-- One step. While a primitive has not returned there is no further step (45_bus_engine.md R244): the machine stops by name. -/
def step (s : State) : Host.Outcome State Fault Refusal :=
  match s.bus.blocked with
  | some call => .fault (.primitiveNeverReturns call)
  | none =>
    match fetch s with
    | .waiting => .next s
    | .run i t => exec i t
    | .reject r t => .next (t.refuse r)

/-- `s` with an opcode-table word handed over as the next command, and no call outstanding. -/
def State.withFetchWord (s : State) (nbits w : Nat) : State := handOver s (tableBytes nbits w)

end Sys2Proof.Machine
end

