-- ==== Sys2Proof/Machine/Pseudo.lean ====
section
/-! DEFINITION. The pseudo-instructions of 30_encoding.md R86: fixed expansions that the host issues one command at a time. -/

namespace Sys2Proof.Machine

/-- The three pseudo-instructions. -/
inductive Pseudo where
  /-- `CKS.UPDATEN [b0 ... bk]`. -/
  | cksUpdateN (data : List Byte)
  /-- `TXN.SUBMIT`. -/
  | txnSubmit
  /-- `TP.SENDNEW c, i, [P]`. -/
  | tpSendNew (cls id : Byte) (data : List Byte)
deriving DecidableEq, Repr

/-- The commands it stands for. -/
def expandPseudo : Pseudo → List Instr
  | .cksUpdateN data => data.map .cksUpdate8
  | .txnSubmit => [.txnBuild, .busSubmit]
  | .tpSendNew cls id data => [.frmNew cls id data, .tpSend]

/-- Whether the commands after one with this result are skipped. -/
def skipRest : Pseudo → Option Result → Bool
  | .cksUpdateN _, _ => false
  | .txnSubmit, some (.refused _) => true
  | .tpSendNew _ _ _, some (.fault _) => true
  | _, _ => false

/-- The host issues the commands in order until one's result says to skip the rest. -/
def runUntil (skip : Option Result → Bool) : List Instr → State → Host.Outcome State Fault Refusal
  | [], s => .next s
  | i :: is, s =>
    match exec i s with
    | .next t => if skip t.result then .next t else runUntil skip is t
    | .fault f => .fault f
    | .refused r => .refused r

/-- Run a pseudo-instruction. -/
def execPseudo (p : Pseudo) (s : State) : Host.Outcome State Fault Refusal := runUntil (skipRest p) (expandPseudo p) s

end Sys2Proof.Machine
end

