-- ==== Sys2Proof/Machine/Registry.lean ====
section
/-! DEFINITION. The message registry, host side and outside the block (46_transport_and_registry.md R262 to R269, 00_scope.md R6): pure
functions with no command and no state of the block. Registration and lookup are atomic steps of one caller (R269, log 13). -/

namespace Sys2Proof.Machine

/-- `MessageType` (R263): class, id and the decoder, which itself judges the payload's shape (R266). -/
structure MessageType (Msg : Type) where
  cls : Byte
  id : Byte
  decode : List Byte → Option Msg

/-- The registry: at most one type per 16-bit key (R264). -/
abbrev Registry (Msg : Type) := List (BitVec 16 × MessageType Msg)

/-- The key: class in the high byte (R264, 30_encoding.md R83). -/
def registryKey (cls id : Byte) : BitVec 16 := cls ++ id

/-- `register(type)` (R265): the last registration of a key wins. -/
def register {Msg : Type} (reg : Registry Msg) (t : MessageType Msg) : Registry Msg :=
  (registryKey t.cls t.id, t) :: reg.filter fun e => decide (e.1 ≠ registryKey t.cls t.id)

/-- The type registered under a key, if any. -/
def lookupType {Msg : Type} (reg : Registry Msg) (key : BitVec 16) : Option (MessageType Msg) :=
  (reg.find? fun e => decide (e.1 = key)).map Prod.snd

/-- A frame's content (43_frame_codec.md R190): class, id and payload. -/
structure Frame where
  cls : Byte
  id : Byte
  payload : List Byte
deriving DecidableEq, Repr

/-- The frame in the slot, as the host takes it from an `Ok(frame)` result. -/
def FrameSlot.frame (f : FrameSlot) : Option Frame := if f.valid then some ⟨f.cls, f.id, f.payload⟩ else none

/-- `unflatten(frame)` (R266, R267): an unknown key and a refused payload are the same Absent. -/
def unflatten {Msg : Type} (reg : Registry Msg) (f : Frame) : Option Msg :=
  (lookupType reg (registryKey f.cls f.id)).bind fun t => t.decode f.payload

/-- The capability a `Message` is polymorphic over (R263): a message `m : Msg`, which is what a type's decoder answers, tells its
type and its payload. -/
structure MessageCapability (Msg : Type) where
  /-- `type()`: the message's type, with its decoder. -/
  typeOf : Msg → MessageType Msg
  /-- `serializePayload()`. -/
  serializePayload : Msg → List Byte

/-- `flatten(m)` (R263): the frame with the class and id of the message's type and the message's serialized payload. -/
def flatten {Msg : Type} (c : MessageCapability Msg) (m : Msg) : Frame :=
  ⟨(c.typeOf m).cls, (c.typeOf m).id, c.serializePayload m⟩

/-- The command that assembles a frame in the slot (43_frame_codec.md R191). -/
def Frame.assemble (f : Frame) : Instr := .frmNew f.cls f.id f.payload

end Sys2Proof.Machine
end

