-- ==== Sys2Proof/Machine/EngineFsm.lean ====
section
/-! DEFINITION. The engine as the state machine of 45_bus_engine.md R238, one row of its table per step: the same submit as
`engineSubmit`, one primitive call at a time (70_reset_and_hazards.md R334). `exec` runs `engineSubmit`; that the two agree is an
obligation. -/

namespace Sys2Proof.Machine

/-- A submit in progress: the segments, the bus with the engine position, and the outcome once there is one. -/
structure EngineRun where
  segs : List Segment
  bus : Bus
  out : Option EngineOut
deriving DecidableEq, Repr

/-- Enter a state of the table. -/
def EngineRun.goto (r : EngineRun) (b : Bus) (phase : Phase) (k j : Nat) : EngineRun := { r with bus := b.at phase k j }

/-- "fail": `eng_err` takes the failure if it holds none; then `Stop`. -/
def EngineRun.fail (r : EngineRun) (b : Bus) (f : BusFault) : EngineRun :=
  { r with bus := (b.withErr (b.err <|> some f)).at .stop b.seg b.byte }

/-- The call has not returned: the run stays where it is for ever (R244). -/
def EngineRun.stuck (r : EngineRun) (b : Bus) : EngineRun := { r with bus := b, out := some .blocked }

/-- After the last byte of segment `k`: the next segment's `Start`, or `Stop`. -/
def EngineRun.nextSegment (r : EngineRun) (b : Bus) : EngineRun :=
  if b.seg + 1 < r.segs.length then r.goto b .start (b.seg + 1) b.byte else r.goto b .stop b.seg b.byte

/-- State `Start`. It sets `eng_byte` to 0 as it enters `Addr`, before the address call: the model's choice (log 11). -/
def fsmStart (r : EngineRun) : EngineRun :=
  match conditionCall r.bus.seg r.bus with
  | (.returned _ _, b) => r.goto b .addr b.seg 0
  | (.failed, b) => r.fail b (.driverFault (conditionPrim b.seg))
  | (.never, b) => r.stuck b

/-- State `Addr`, for the segment in hand. -/
def fsmAddr (r : EngineRun) (g : Segment) : EngineRun :=
  match drvAddr g.addr (decide (g.dir = .read)) r.bus with
  | (.returned true _, b) =>
    if g.data.length = 0 then r.nextSegment b
    else r.goto b (if g.dir = .write then .wdata else .rdata) b.seg 0
  | (.returned false _, b) => r.fail b (.nackAddress g.addr)
  | (.failed, b) => r.fail b (.driverFault .addr)
  | (.never, b) => r.stuck b

/-- State `WData`, for the segment in hand. -/
def fsmWData (r : EngineRun) (g : Segment) : EngineRun :=
  match drvWbyte (byteAt g.data r.bus.byte) r.bus with
  | (.returned true _, b) =>
    if b.byte + 1 < g.data.length then r.goto b .wdata b.seg (b.byte + 1) else r.nextSegment b
  | (.returned false _, b) => r.fail b (.nackDataWrite g.addr b.seg b.byte)
  | (.failed, b) => r.fail b (.driverFault .wbyte)
  | (.never, b) => r.stuck b

/-- State `RData`, for the segment in hand. -/
def fsmRData (r : EngineRun) (g : Segment) : EngineRun :=
  match drvRbyte (ackNextOf r.bus.byte g.data.length) r.bus with
  | (.returned _ x, b) =>
    let r' := { r with segs := r.segs.set b.seg { g with data := g.data.set b.byte x } }
    if b.byte + 1 < g.data.length then r'.goto b .rdata b.seg (b.byte + 1) else r'.nextSegment b
  | (.failed, b) => r.fail b (.driverFault .rbyte)
  | (.never, b) => r.stuck b

/-- State `Stop`. -/
def fsmStop (r : EngineRun) : EngineRun :=
  match drvStop r.bus with
  | (.returned _ _, b) => { r with bus := b.toIdle, out := some (outOfErr b.err) }
  | (.failed, b) => { r with bus := b.toIdle, out := some (outOfErr (b.err <|> some (.driverFault .stop))) }
  | (.never, b) => r.stuck b

/-- One row of the table. A run with an outcome, in `Idle`, or past its segments stays as it is. -/
def fsmStep (r : EngineRun) : EngineRun :=
  match r.out, r.bus.phase, r.segs[r.bus.seg]? with
  | some _, _, _ => r
  | none, .start, _ => fsmStart r
  | none, .addr, some g => fsmAddr r g
  | none, .wdata, some g => fsmWData r g
  | none, .rdata, some g => fsmRData r g
  | none, .stop, _ => fsmStop r
  | none, _, _ => r

/-- `n` rows of the table. -/
def fsmRun : Nat → EngineRun → EngineRun
  | 0, r => r
  | n + 1, r => fsmRun n (fsmStep r)

/-- The rows `Idle` of the table: a submit of nothing ends at once, any other goes to `Start` with `k = 0`. -/
def fsmBegin (segs : List Segment) (b : Bus) : EngineRun :=
  match segs with
  | [] => ⟨[], b, some .ok⟩
  | _ :: _ => ⟨segs, (b.withErr none).at .start 0 b.byte, none⟩

/-- The most primitive calls a submit makes: two and the data bytes for each segment, and the stop. -/
def callBound (segs : List Segment) : Nat := (segs.map fun g => 2 + g.data.length).sum + 1

end Sys2Proof.Machine
end

