-- ==== Sys2Proof/Safety.lean ====
section
/-! DEFINITION. What a safe state and a safe bus history are, in the terms claims use. -/

namespace Sys2Proof.Machine

/-! ## States -/

/-- The reader's buffer has a legal length and its cursor lies in it (10_state.md R23, R24). -/
def readerOk (r : PackedReader) : Prop := r.len < 2 ^ 31 ∧ r.cur ≤ r.len

/-- The writer's buffer has a legal length and its cursor lies in it (R25, R26). -/
def writerOk (w : PackedWriter) : Prop := w.len < 2 ^ 31 ∧ w.cur ≤ w.len

/-- Every segment's data has a legal length (44_transaction_builder.md R221). -/
def segmentsOk (gs : List Segment) : Prop := ∀ g ∈ gs, g.data.length < 2 ^ 31

/-- The frame slot's invariant (10_state.md R31, R32, R33): a legal payload, and memo fields that are not stale. -/
def frameOk (cfg : Config) (f : FrameSlot) : Prop :=
  f.payload.length ≤ 65535 ∧
  (∀ xs, f.ser = some xs → xs = serFrame cfg f.cls f.id f.payload) ∧
  (∀ c, f.ck = some c → c = cksOver cfg (frameBody f.cls f.id f.payload)) ∧
  (f.ser.isSome = true → f.ck.isSome = true)

/-- Outside a submit the engine is idle and holds no error (R37); only a call that has not returned keeps it inside one. -/
def engineAtRest (b : Bus) : Prop := b.blocked = none → b.phase = .idle ∧ b.err = none

/-! ## Bus histories -/

/-- A call of `drv.start()`, answered or failed. -/
def isStartCall : BusEvent → Bool
  | .s => true
  | .x .start => true
  | _ => false

/-- A call of `drv.stop()`, answered or failed. -/
def isStopCall : BusEvent → Bool
  | .p => true
  | .x .stop => true
  | _ => false

/-- A call that ends the segment loop: a NACK or a driver fault (45_bus_engine.md R235, R236). -/
def isFailure : BusEvent → Bool
  | .a _ _ ack => !ack
  | .w _ ack => !ack
  | .x _ => true
  | _ => false

/-- How often a call of a kind was made. -/
def callCount (p : BusEvent → Bool) (t : List BusEvent) : Nat := (t.filter p).length

/-- Every exchange that was started was stopped, once; a call that has not returned may leave one open (R234, R244). -/
def startsStopped (b : Bus) : Prop :=
  if b.blocked = none then callCount isStartCall b.trace = callCount isStopCall b.trace
  else callCount isStopCall b.trace ≤ callCount isStartCall b.trace ∧
    callCount isStartCall b.trace ≤ callCount isStopCall b.trace + 1

/-! ## The exchange the document expects of an acknowledging driver -/

/-- The letters of segment `k`, the driver acknowledging everything and answering `xs[2], xs[3], ...` to its byte reads; `xs` holds
one byte per call of the segment (45_bus_engine.md R230 to R233). -/
def segmentTrace (k : Nat) (g : Segment) (xs : List Byte) : List BusEvent :=
  [if k = 0 then .s else .sr, .a g.addr (decide (g.dir = .read)) true] ++
  match g.dir with
  | .write => g.data.map fun x => .w x true
  | .read => (List.range g.data.length).map fun j => .r (decide (j + 1 < g.data.length)) (byteAt xs (j + 2))

/-- The segment's data afterwards (R237). -/
def segmentAfter (g : Segment) (xs : List Byte) : Segment :=
  match g.dir with
  | .write => g
  | .read => { g with data := (List.range g.data.length).map fun j => byteAt xs (j + 2) }

/-- The letters of the segments from number `k` on. -/
def segmentsTrace : Nat → List Segment → List Byte → List BusEvent
  | _, [], _ => []
  | k, g :: gs, xs => segmentTrace k g xs ++ segmentsTrace (k + 1) gs (xs.drop (2 + g.data.length))

/-- The segments afterwards. -/
def segmentsAfter : List Segment → List Byte → List Segment
  | [], _ => []
  | g :: gs, xs => segmentAfter g xs :: segmentsAfter gs (xs.drop (2 + g.data.length))

/-- Answers that acknowledge everything and carry these bytes. -/
def ackScript (xs : List Byte) : List DrvAnswer := xs.map fun x => .returns true x

end Sys2Proof.Machine
end

