-- ==== Sys2Proof/WellFormed.lean ====
section
/-! DEFINITION. Which commands have an encoding: the `n` field of a command with data has 32 bits (30_encoding.md R72, R73). -/

namespace Sys2Proof

/-- A `data` operand fits its 32-bit `n` field. (A length of 2^31 or more has an encoding and is refused when it runs, R283.) -/
def dataFits (data : List Byte) : Bool := decide (data.length < 2 ^ 32)

/-- A command that some byte sequence encodes. Every other operand is in range by its type. -/
def Instr.wf : Instr → Bool
  | .prNew data => dataFits data
  | .pwPokeBytes _ data => dataFits data
  | .pwWriteBytes data => dataFits data
  | .frmNew _ _ data => dataFits data
  | .frmDeserialize data => dataFits data
  | .txnWrite _ data => dataFits data
  | .txnWrited data => dataFits data
  | .cksNew => true
  | .cksUpdate8 _ => true
  | .cksUpdate16 _ => true
  | .cksGet => true
  | .prPeekU8 _ => true
  | .prPeekS8 _ => true
  | .prPeekU16LE _ => true
  | .prPeekS16LE _ => true
  | .prPeekU16BE _ => true
  | .prPeekS16BE _ => true
  | .prPeekU32LE _ => true
  | .prPeekS32LE _ => true
  | .prPeekU32BE _ => true
  | .prPeekS32BE _ => true
  | .prPeekF32 _ => true
  | .prPeekF64 _ => true
  | .prPeekChar _ => true
  | .prPeekBytes _ _ => true
  | .prReadU8 => true
  | .prReadS8 => true
  | .prReadU16LE => true
  | .prReadS16LE => true
  | .prReadU16BE => true
  | .prReadS16BE => true
  | .prReadU32LE => true
  | .prReadS32LE => true
  | .prReadU32BE => true
  | .prReadS32BE => true
  | .prReadF32 => true
  | .prReadF64 => true
  | .prReadChar => true
  | .prReadBytes _ => true
  | .pwPokeU8 _ _ => true
  | .pwPokeS8 _ _ => true
  | .pwPokeU16LE _ _ => true
  | .pwPokeS16LE _ _ => true
  | .pwPokeU16BE _ _ => true
  | .pwPokeS16BE _ _ => true
  | .pwPokeU32LE _ _ => true
  | .pwPokeS32LE _ _ => true
  | .pwPokeU32BE _ _ => true
  | .pwPokeS32BE _ _ => true
  | .pwPokeF32 _ _ => true
  | .pwPokeF64 _ _ => true
  | .pwPokeChar _ _ => true
  | .pwWriteU8 _ => true
  | .pwWriteS8 _ => true
  | .pwWriteU16LE _ => true
  | .pwWriteS16LE _ => true
  | .pwWriteU16BE _ => true
  | .pwWriteS16BE _ => true
  | .pwWriteU32LE _ => true
  | .pwWriteS32LE _ => true
  | .pwWriteU32BE _ => true
  | .pwWriteS32BE _ => true
  | .pwWriteF32 _ => true
  | .pwWriteF64 _ => true
  | .pwWriteChar _ => true
  | .pwNew _ => true
  | .frmSerialize => true
  | .frmChecksum => true
  | .txnNew => true
  | .txnWith _ => true
  | .txnRead _ _ => true
  | .txnReadd _ => true
  | .txnBuild => true
  | .busOpen => true
  | .busClose => true
  | .busSubmit => true
  | .tpConfig _ _ => true
  | .tpSend => true
  | .tpPoll => true

end Sys2Proof
end

