-- ==== Sys2Proof/Certificates/Slice0/Obligations.lean ====
section
/-! DEFINITION. The statements for the provers. Each docstring names the rules of spec/ it formalises. -/

open Sys2Proof Sys2Proof.Machine

namespace Sys2Proof.Claim

/-! ## The words the statements share, in the spec's own terms -/

/-- The offset operand names position `k` of a buffer of `len` bytes (20_memory.md R52). -/
def offsetIs (off : Word32) (len k : Nat) : Prop :=
  (if 0 ≤ off.toInt then off.toInt else (len : Int) + off.toInt) = (k : Int)

/-- `n` bytes at the offset operand do not all lie in a buffer of `len` bytes (R53). -/
def offsetBad (off : Word32) (len n : Nat) : Prop :=
  (if 0 ≤ off.toInt then off.toInt else (len : Int) + off.toInt) < 0 ∨
  (len : Int) < (if 0 ≤ off.toInt then off.toInt else (len : Int) + off.toInt) + (n : Int)

/-- An 8-bit, 16-bit or 32-bit number read as two's complement (00_scope.md R8). -/
def signed8 (v : Nat) : Int := if v < 128 then (v : Int) else (v : Int) - 256
def signed16 (v : Nat) : Int := if v < 32768 then (v : Int) else (v : Int) - 65536
def signed32 (v : Nat) : Int := if v < 2147483648 then (v : Int) else (v : Int) - 4294967296

/-- `exec` answers the next state in which, from `s`, only the result has changed, to `r`. -/
def onlyResult (i : Instr) (s : State) (r : Result) : Prop := exec i s = .next (s.withResult (some r))

/-- As `onlyResult` for an integer result. -/
def returnsInt (i : Instr) (s : State) (v : Int) : Prop := onlyResult i s (.value (.int v))

/-- `exec` answers the next state in which, from `s`, only the reader's cursor and the result have changed. -/
def readsValue (i : Instr) (s : State) (width : Nat) (v : Value) : Prop :=
  exec i s = .next ((s.withPr { s.pr with cur := s.pr.cur + width }).withResult (some (.value v)))

/-- As `readsValue` for an integer result. -/
def readsInt (i : Instr) (s : State) (width : Nat) (v : Int) : Prop := readsValue i s width (.int v)

/-- `exec` answers `Ok`, and from `s` only the writer's buffer has changed, to `buf`, and the result. -/
def pokes (i : Instr) (s : State) (buf : List Byte) : Prop :=
  exec i s = .next ((s.withPw { s.pw with buf := buf }).withResult (some .ok))

/-- As `pokes`, the cursor advancing by `width`. -/
def writes (i : Instr) (s : State) (width : Nat) (buf : List Byte) : Prop :=
  exec i s = .next ((s.withPw { s.pw with buf := buf, cur := s.pw.cur + width }).withResult (some .ok))

/-- Byte `j` of a pattern, byte 0 least significant: `val[8j+7 : 8j]` (R8). -/
def byteOf (val : BitVec n) (j : Nat) : Byte := val.extractLsb' (8 * j) 8

/-- A buffer with the bytes from `k` on replaced by the bytes given, one by one. -/
def setBytes : List Byte → Nat → List Byte → List Byte
  | buf, _, [] => buf
  | buf, k, x :: xs => setBytes (buf.set k x) (k + 1) xs

/-- The 177 illegal opcode bytes, as 30_encoding.md R76 lists them. -/
def illegalOpcode (n : Nat) : Bool :=
  (0x00 ≤ n && n ≤ 0x0F) || (0x14 ≤ n && n ≤ 0x3F) || n == 0x4E || n == 0x4F || n == 0x5E || n == 0x5F ||
  (0x61 ≤ n && n ≤ 0x7F) || n == 0x8E || n == 0x8F || n == 0x9E || n == 0x9F || (0xA1 ≤ n && n ≤ 0xBF) ||
  (0xC4 ≤ n && n ≤ 0xCF) || n == 0xD7 || (0xDB ≤ n && n ≤ 0xDF) || (0xE3 ≤ n && n ≤ 0xFF)

/-- A segment as the builder command that appends it (44_transaction_builder.md R214, R215). -/
def appendCommand (g : Segment) : Instr :=
  match g.dir with
  | .write => .txnWrite (g.addr.setWidth 8) g.data
  | .read => .txnRead (g.addr.setWidth 8) (BitVec.ofNat 32 g.data.length)

/-- The weighted sum of 40_checksum.md R106: `n*x[0] + (n-1)*x[1] + ... + 1*x[n-1]`. -/
def weightedSum : List Byte → Nat
  | [] => 0
  | x :: xs => (xs.length + 1) * x.toNat + weightedSum xs

/-- The plain sum. -/
def plainSum (xs : List Byte) : Nat := (xs.map BitVec.toNat).sum

end Sys2Proof.Claim

open Sys2Proof.Claim

/-! ## Decoding -/

/-- For each of the 79 rows of R75, for every value of every operand byte laid out as R72 and R73 say (off, n, val, ceiling and imm16 little-endian; n data bytes after their n field), the decoder reads the command of that row with those operands, and leaves the bytes after it. -/
def Obligations.OpcodeMapDecodesEveryRow : Prop :=
  (∀ (imm addr o0 o1 o2 o3 n0 n1 n2 n3 c0 c1 c2 c3 v0 v1 v2 v3 v4 v5 v6 v7 m0 m1 : Byte) (rest : List Byte),
    decode (0x10 :: rest) = .command (.cksNew) rest ∧
    decode (0x11 :: imm :: rest) = .command (.cksUpdate8 imm) rest ∧
    decode (0x12 :: m0 :: m1 :: rest) = .command (.cksUpdate16 (m1 ++ m0)) rest ∧
    decode (0x13 :: rest) = .command (.cksGet) rest ∧
    decode (0x40 :: o0 :: o1 :: o2 :: o3 :: rest) = .command (.prPeekU8 (o3 ++ o2 ++ o1 ++ o0)) rest ∧
    decode (0x41 :: o0 :: o1 :: o2 :: o3 :: rest) = .command (.prPeekS8 (o3 ++ o2 ++ o1 ++ o0)) rest ∧
    decode (0x42 :: o0 :: o1 :: o2 :: o3 :: rest) = .command (.prPeekU16LE (o3 ++ o2 ++ o1 ++ o0)) rest ∧
    decode (0x43 :: o0 :: o1 :: o2 :: o3 :: rest) = .command (.prPeekS16LE (o3 ++ o2 ++ o1 ++ o0)) rest ∧
    decode (0x44 :: o0 :: o1 :: o2 :: o3 :: rest) = .command (.prPeekU16BE (o3 ++ o2 ++ o1 ++ o0)) rest ∧
    decode (0x45 :: o0 :: o1 :: o2 :: o3 :: rest) = .command (.prPeekS16BE (o3 ++ o2 ++ o1 ++ o0)) rest ∧
    decode (0x46 :: o0 :: o1 :: o2 :: o3 :: rest) = .command (.prPeekU32LE (o3 ++ o2 ++ o1 ++ o0)) rest ∧
    decode (0x47 :: o0 :: o1 :: o2 :: o3 :: rest) = .command (.prPeekS32LE (o3 ++ o2 ++ o1 ++ o0)) rest ∧
    decode (0x48 :: o0 :: o1 :: o2 :: o3 :: rest) = .command (.prPeekU32BE (o3 ++ o2 ++ o1 ++ o0)) rest ∧
    decode (0x49 :: o0 :: o1 :: o2 :: o3 :: rest) = .command (.prPeekS32BE (o3 ++ o2 ++ o1 ++ o0)) rest ∧
    decode (0x4A :: o0 :: o1 :: o2 :: o3 :: rest) = .command (.prPeekF32 (o3 ++ o2 ++ o1 ++ o0)) rest ∧
    decode (0x4B :: o0 :: o1 :: o2 :: o3 :: rest) = .command (.prPeekF64 (o3 ++ o2 ++ o1 ++ o0)) rest ∧
    decode (0x4C :: o0 :: o1 :: o2 :: o3 :: rest) = .command (.prPeekChar (o3 ++ o2 ++ o1 ++ o0)) rest ∧
    decode (0x4D :: o0 :: o1 :: o2 :: o3 :: n0 :: n1 :: n2 :: n3 :: rest) = .command (.prPeekBytes (o3 ++ o2 ++ o1 ++ o0) (n3 ++ n2 ++ n1 ++ n0)) rest ∧
    decode (0x50 :: rest) = .command (.prReadU8) rest ∧
    decode (0x51 :: rest) = .command (.prReadS8) rest ∧
    decode (0x52 :: rest) = .command (.prReadU16LE) rest ∧
    decode (0x53 :: rest) = .command (.prReadS16LE) rest ∧
    decode (0x54 :: rest) = .command (.prReadU16BE) rest ∧
    decode (0x55 :: rest) = .command (.prReadS16BE) rest ∧
    decode (0x56 :: rest) = .command (.prReadU32LE) rest ∧
    decode (0x57 :: rest) = .command (.prReadS32LE) rest ∧
    decode (0x58 :: rest) = .command (.prReadU32BE) rest ∧
    decode (0x59 :: rest) = .command (.prReadS32BE) rest ∧
    decode (0x5A :: rest) = .command (.prReadF32) rest ∧
    decode (0x5B :: rest) = .command (.prReadF64) rest ∧
    decode (0x5C :: rest) = .command (.prReadChar) rest ∧
    decode (0x5D :: n0 :: n1 :: n2 :: n3 :: rest) = .command (.prReadBytes (n3 ++ n2 ++ n1 ++ n0)) rest ∧
    decode (0x80 :: o0 :: o1 :: o2 :: o3 :: v0 :: rest) = .command (.pwPokeU8 (o3 ++ o2 ++ o1 ++ o0) v0) rest ∧
    decode (0x81 :: o0 :: o1 :: o2 :: o3 :: v0 :: rest) = .command (.pwPokeS8 (o3 ++ o2 ++ o1 ++ o0) v0) rest ∧
    decode (0x82 :: o0 :: o1 :: o2 :: o3 :: v0 :: v1 :: rest) = .command (.pwPokeU16LE (o3 ++ o2 ++ o1 ++ o0) (v1 ++ v0)) rest ∧
    decode (0x83 :: o0 :: o1 :: o2 :: o3 :: v0 :: v1 :: rest) = .command (.pwPokeS16LE (o3 ++ o2 ++ o1 ++ o0) (v1 ++ v0)) rest ∧
    decode (0x84 :: o0 :: o1 :: o2 :: o3 :: v0 :: v1 :: rest) = .command (.pwPokeU16BE (o3 ++ o2 ++ o1 ++ o0) (v1 ++ v0)) rest ∧
    decode (0x85 :: o0 :: o1 :: o2 :: o3 :: v0 :: v1 :: rest) = .command (.pwPokeS16BE (o3 ++ o2 ++ o1 ++ o0) (v1 ++ v0)) rest ∧
    decode (0x86 :: o0 :: o1 :: o2 :: o3 :: v0 :: v1 :: v2 :: v3 :: rest) = .command (.pwPokeU32LE (o3 ++ o2 ++ o1 ++ o0) (v3 ++ v2 ++ v1 ++ v0)) rest ∧
    decode (0x87 :: o0 :: o1 :: o2 :: o3 :: v0 :: v1 :: v2 :: v3 :: rest) = .command (.pwPokeS32LE (o3 ++ o2 ++ o1 ++ o0) (v3 ++ v2 ++ v1 ++ v0)) rest ∧
    decode (0x88 :: o0 :: o1 :: o2 :: o3 :: v0 :: v1 :: v2 :: v3 :: rest) = .command (.pwPokeU32BE (o3 ++ o2 ++ o1 ++ o0) (v3 ++ v2 ++ v1 ++ v0)) rest ∧
    decode (0x89 :: o0 :: o1 :: o2 :: o3 :: v0 :: v1 :: v2 :: v3 :: rest) = .command (.pwPokeS32BE (o3 ++ o2 ++ o1 ++ o0) (v3 ++ v2 ++ v1 ++ v0)) rest ∧
    decode (0x8A :: o0 :: o1 :: o2 :: o3 :: v0 :: v1 :: v2 :: v3 :: rest) = .command (.pwPokeF32 (o3 ++ o2 ++ o1 ++ o0) (v3 ++ v2 ++ v1 ++ v0)) rest ∧
    decode (0x8B :: o0 :: o1 :: o2 :: o3 :: v0 :: v1 :: v2 :: v3 :: v4 :: v5 :: v6 :: v7 :: rest) = .command (.pwPokeF64 (o3 ++ o2 ++ o1 ++ o0) (v7 ++ v6 ++ v5 ++ v4 ++ v3 ++ v2 ++ v1 ++ v0)) rest ∧
    decode (0x8C :: o0 :: o1 :: o2 :: o3 :: v0 :: rest) = .command (.pwPokeChar (o3 ++ o2 ++ o1 ++ o0) v0) rest ∧
    decode (0x90 :: v0 :: rest) = .command (.pwWriteU8 v0) rest ∧
    decode (0x91 :: v0 :: rest) = .command (.pwWriteS8 v0) rest ∧
    decode (0x92 :: v0 :: v1 :: rest) = .command (.pwWriteU16LE (v1 ++ v0)) rest ∧
    decode (0x93 :: v0 :: v1 :: rest) = .command (.pwWriteS16LE (v1 ++ v0)) rest ∧
    decode (0x94 :: v0 :: v1 :: rest) = .command (.pwWriteU16BE (v1 ++ v0)) rest ∧
    decode (0x95 :: v0 :: v1 :: rest) = .command (.pwWriteS16BE (v1 ++ v0)) rest ∧
    decode (0x96 :: v0 :: v1 :: v2 :: v3 :: rest) = .command (.pwWriteU32LE (v3 ++ v2 ++ v1 ++ v0)) rest ∧
    decode (0x97 :: v0 :: v1 :: v2 :: v3 :: rest) = .command (.pwWriteS32LE (v3 ++ v2 ++ v1 ++ v0)) rest ∧
    decode (0x98 :: v0 :: v1 :: v2 :: v3 :: rest) = .command (.pwWriteU32BE (v3 ++ v2 ++ v1 ++ v0)) rest ∧
    decode (0x99 :: v0 :: v1 :: v2 :: v3 :: rest) = .command (.pwWriteS32BE (v3 ++ v2 ++ v1 ++ v0)) rest ∧
    decode (0x9A :: v0 :: v1 :: v2 :: v3 :: rest) = .command (.pwWriteF32 (v3 ++ v2 ++ v1 ++ v0)) rest ∧
    decode (0x9B :: v0 :: v1 :: v2 :: v3 :: v4 :: v5 :: v6 :: v7 :: rest) = .command (.pwWriteF64 (v7 ++ v6 ++ v5 ++ v4 ++ v3 ++ v2 ++ v1 ++ v0)) rest ∧
    decode (0x9C :: v0 :: rest) = .command (.pwWriteChar v0) rest ∧
    decode (0xA0 :: n0 :: n1 :: n2 :: n3 :: rest) = .command (.pwNew (n3 ++ n2 ++ n1 ++ n0)) rest ∧
    decode (0xC1 :: rest) = .command (.frmSerialize) rest ∧
    decode (0xC2 :: rest) = .command (.frmChecksum) rest ∧
    decode (0xD0 :: rest) = .command (.txnNew) rest ∧
    decode (0xD1 :: addr :: rest) = .command (.txnWith addr) rest ∧
    decode (0xD3 :: addr :: n0 :: n1 :: n2 :: n3 :: rest) = .command (.txnRead addr (n3 ++ n2 ++ n1 ++ n0)) rest ∧
    decode (0xD5 :: n0 :: n1 :: n2 :: n3 :: rest) = .command (.txnReadd (n3 ++ n2 ++ n1 ++ n0)) rest ∧
    decode (0xD6 :: rest) = .command (.txnBuild) rest ∧
    decode (0xD8 :: rest) = .command (.busOpen) rest ∧
    decode (0xD9 :: rest) = .command (.busClose) rest ∧
    decode (0xDA :: rest) = .command (.busSubmit) rest ∧
    decode (0xE0 :: addr :: c0 :: c1 :: c2 :: c3 :: rest) = .command (.tpConfig addr (c3 ++ c2 ++ c1 ++ c0)) rest ∧
    decode (0xE1 :: rest) = .command (.tpSend) rest ∧
    decode (0xE2 :: rest) = .command (.tpPoll) rest) ∧
  (∀ (addr cls id o0 o1 o2 o3 n0 n1 n2 n3 : Byte) (data rest : List Byte),
    data.length = n0.toNat + 256 * n1.toNat + 65536 * n2.toNat + 16777216 * n3.toNat →
    decode (0x60 :: n0 :: n1 :: n2 :: n3 :: (data ++ rest)) = .command (.prNew data) rest ∧
    decode (0x8D :: o0 :: o1 :: o2 :: o3 :: n0 :: n1 :: n2 :: n3 :: (data ++ rest)) = .command (.pwPokeBytes (o3 ++ o2 ++ o1 ++ o0) data) rest ∧
    decode (0x9D :: n0 :: n1 :: n2 :: n3 :: (data ++ rest)) = .command (.pwWriteBytes data) rest ∧
    decode (0xC0 :: cls :: id :: n0 :: n1 :: n2 :: n3 :: (data ++ rest)) = .command (.frmNew cls id data) rest ∧
    decode (0xC3 :: n0 :: n1 :: n2 :: n3 :: (data ++ rest)) = .command (.frmDeserialize data) rest ∧
    decode (0xD2 :: addr :: n0 :: n1 :: n2 :: n3 :: (data ++ rest)) = .command (.txnWrite addr data) rest ∧
    decode (0xD4 :: n0 :: n1 :: n2 :: n3 :: (data ++ rest)) = .command (.txnWrited data) rest)

/-- The decoder rejects an opcode byte as unknown exactly when it is one of the values R76 lists, which are 177; a step that finds such a command answers Refused(UnknownOpcode) and leaves every piece of the block as it was (only the result and the hand-overs, which are no state of the block, change). -/
def Obligations.IllegalOpcodesRefused : Prop :=
  (∀ (op : Byte) (bs : List Byte), decode (op :: bs) = .unknownOpcode ↔ illegalOpcode op.toNat = true) ∧
  ((List.range 256).filter illegalOpcode).length = 177 ∧
  (∀ (s : State) (op : Byte) (bs : List Byte) (more : List (List Byte)),
    s.bus.blocked = none → s.cmdIn = (op :: bs) :: more → illegalOpcode op.toNat = true →
    ∃ q, step s = .next ((s.withCmdIn q).withResult (some (.refused .unknownOpcode))))

/-- Every proper prefix of the bytes of a well-formed command, the empty one included, decodes as truncated (R77; that no byte at all counts as cut short is the model's choice, log 2), and a step that finds it answers Refused(TruncatedCommand) with every piece of the block unchanged. -/
def Obligations.TruncatedCommandsRefused : Prop :=
  (∀ (i : Instr) (k : Nat), i.wf = true → k < (encode i).length → decode ((encode i).take k) = .truncated) ∧
  (∀ (s : State) (bs : List Byte) (more : List (List Byte)),
    s.bus.blocked = none → s.cmdIn = bs :: more → decode bs = .truncated →
    ∃ q, step s = .next ((s.withCmdIn q).withResult (some (.refused .truncatedCommand))))

/-- For every well-formed command i, with every operand at every value its encoding admits, and every byte sequence after it, decode (encode i ++ rest) is i with rest left over: no bit of an encoding is dropped, and commands follow each other with no padding. -/
def Obligations.DecodeOfEncodeIsIdentity : Prop :=
  ∀ (i : Instr) (rest : List Byte), i.wf = true → decode (encode i ++ rest) = .command i rest

/-- If the decoder reads a command i from some bytes and leaves rest, the bytes are exactly encode i followed by rest, and i is well formed: each command has one encoding, and no other bytes decode to it. -/
def Obligations.EncodeOfDecodeIsIdentity : Prop :=
  ∀ (bs : List Byte) (i : Instr) (rest : List Byte), decode bs = .command i rest → bs = encode i ++ rest ∧ i.wf = true

/-- Commands written out as bytes in programs P1, P2, P4, P5 and P6 of 95_test_vectors.md decode to the commands those programs name. -/
def Obligations.SpecCommandWordsDecode : Prop :=
  decode [0x11, 0x02] = .command (.cksUpdate8 0x02) [] ∧
  decode [0x44, 0xFE, 0xFF, 0xFF, 0xFF] = .command (.prPeekU16BE (-2)) [] ∧
  decode [0x84, 0xFE, 0xFF, 0xFF, 0xFF, 0x19, 0xFF] = .command (.pwPokeU16BE (-2) 0xFF19) [] ∧
  decode [0x4D, 0x06, 0, 0, 0, 0x03, 0, 0, 0] = .command (.prPeekBytes 6 3) [] ∧
  decode [0xC0, 0x01, 0x02, 0x04, 0, 0, 0, 0xDE, 0xAD, 0xBE, 0xEF] = .command (.frmNew 1 2 [0xDE, 0xAD, 0xBE, 0xEF]) [] ∧
  decode [0xD2, 0x03, 0x02, 0, 0, 0, 0x40, 0x41] = .command (.txnWrite 3 [0x40, 0x41]) [] ∧
  decode [0xDA] = .command .busSubmit [] ∧
  decode [0xE0, 0x42, 0x00, 0x10, 0x00, 0x00] = .command (.tpConfig 0x42 4096) []

/-! ## Steps -/

/-- When no call is outstanding and the bytes of the first hand-over decode to a command i with rest after it, the step is exec of i on the state from which that command is taken: the hand-overs are rest, if it is not empty, in front of the later ones (R77; the queue of hand-overs is the model's, log 2), and nothing else has changed. -/
def Obligations.StepRunsTheDecodedCommand : Prop :=
  ∀ (s : State) (bs : List Byte) (more : List (List Byte)) (i : Instr) (rest : List Byte),
    s.bus.blocked = none → s.cmdIn = bs :: more → decode bs = .command i rest →
    step s = exec i (s.withCmdIn (if rest = [] then more else rest :: more))

/-- With no hand-over and no outstanding call the step leaves the state as it is (the model's choice, log 2); while a primitive has not returned, the machine stops by name (R244, R326: the command never ends; the form of the stop is the model's choice, log 4). -/
def Obligations.IdleAndBlockedSteps : Prop :=
  (∀ s : State, s.bus.blocked = none → s.cmdIn = [] → step s = .next s) ∧
  (∀ (s : State) (call : Prim), s.bus.blocked = some call → step s = .fault (.primitiveNeverReturns call))

/-- After reset, in a block built with any parameters, a and b are CKS_INIT, the five valid bits and tp_addr_valid are 0, the engine is idle with no error, no primitive has been called and tp_ceiling is 4096 (the values R43 gives; the fields it leaves unspecified are not stated). State.reset is the block built with the defaults of D2 and D3, in which a and b are 0 and the order is A_HIGH (log 5; its HAS_RSTART is the model's choice, log 12, and not stated). -/
def Obligations.ResetLeavesNothingUsable : Prop :=
  (∀ b : Build,
    (State.resetOf b).cks = ⟨b.cksInitA, b.cksInitB⟩ ∧ (State.resetOf b).build = b ∧
    (State.resetOf b).pr.valid = false ∧ (State.resetOf b).pw.valid = false ∧ (State.resetOf b).frm.valid = false ∧
    (State.resetOf b).tb.valid = false ∧ (State.resetOf b).txn.valid = false ∧
    (State.resetOf b).bus.phase = .idle ∧ (State.resetOf b).bus.err = none ∧ (State.resetOf b).bus.trace = [] ∧
    (State.resetOf b).tp.addrValid = false ∧ (State.resetOf b).tp.ceiling = 4096) ∧
  State.reset = State.resetOf State.reset.build ∧ State.reset.build.cksOrder = .aHigh ∧ State.reset.cks = ⟨0, 0⟩

/-! ## Checksum accumulator -/

/-- CKS.UPDATE8 completes with Ok; a becomes (a + byte) mod 256 and b becomes (b + the new a) mod 256, and nothing else changes. CKS.UPDATE16 does so with the high byte of its operand and then with the low byte. -/
def Obligations.ChecksumUpdatesAreSequential : Prop :=
  (∀ (s : State) (x : Byte), ∃ c : Cks,
    exec (.cksUpdate8 x) s = .next ((s.withCks c).withResult (some .ok)) ∧
    c.a.toNat = (s.cks.a.toNat + x.toNat) % 256 ∧ c.b.toNat = (s.cks.b.toNat + c.a.toNat) % 256) ∧
  (∀ (s : State) (v : BitVec 16), ∃ c d : Cks,
    exec (.cksUpdate16 v) s = .next ((s.withCks d).withResult (some .ok)) ∧
    c.a.toNat = (s.cks.a.toNat + v.toNat / 256) % 256 ∧ c.b.toNat = (s.cks.b.toNat + c.a.toNat) % 256 ∧
    d.a.toNat = (c.a.toNat + v.toNat % 256) % 256 ∧ d.b.toNat = (c.b.toNat + d.a.toNat) % 256)

/-- In a block built with any parameters: CKS.NEW sets a and b to CKS_INIT and changes nothing else; CKS.GET returns a * 256 + b when CKS_ORDER is A_HIGH and b * 256 + a when it is B_HIGH, and changes neither. -/
def Obligations.ChecksumNewAndGet : Prop :=
  (∀ s : State, exec .cksNew s = .next ((s.withCks ⟨s.cfg.cksInitA, s.cfg.cksInitB⟩).withResult (some .ok))) ∧
  (∀ s : State, ∃ v : BitVec 16, onlyResult .cksGet s (.value (.bits16 v)) ∧
    (s.cfg.cksOrder = .aHigh → v.toNat = s.cks.a.toNat * 256 + s.cks.b.toNat) ∧
    (s.cfg.cksOrder = .bHigh → v.toNat = s.cks.b.toNat * 256 + s.cks.a.toNat))

/-- In a block built with CKS_INIT = (0, 0), from a state just after CKS.NEW, feeding the bytes x[0] ... x[n-1] one by one with CKS.UPDATE8 (the pseudo-instruction CKS.UPDATEN) ends with a the sum of the bytes mod 256 and b the sum of (n-k)*x[k] mod 256; with at least one byte it completes with Ok and nothing but a and b has changed, with no byte fed the state is unchanged. -/
def Obligations.ChecksumClosedForm : Prop :=
  ∀ (s t : State) (xs : List Byte), s.cfg.cksInitA = 0 → s.cfg.cksInitB = 0 → exec .cksNew s = .next t →
    ∃ u : State, execPseudo (.cksUpdateN xs) t = .next u ∧
      u.cks.a.toNat = plainSum xs % 256 ∧ u.cks.b.toNat = weightedSum xs % 256 ∧
      (xs = [] → u = t) ∧ (xs ≠ [] → u = (t.withCks u.cks).withResult (some .ok))

/-! ## Packed reader -/

/-- PR.NEW with fewer than 2^31 bytes completes with Ok: the reader is valid, holds exactly these bytes, its cursor is 0, and nothing else changes; with 2^31 bytes or more it is refused with OperandRange and changes nothing. -/
def Obligations.ReaderNewBindsACopy : Prop :=
  ∀ (s : State) (data : List Byte),
    (data.length < 2 ^ 31 → exec (.prNew data) s = .next ((s.withPr ⟨true, data, 0⟩).withResult (some .ok))) ∧
    (2 ^ 31 ≤ data.length → onlyResult (.prNew data) s (.refused .operandRange))

/-- When the reader is valid and its buffer holds x at the effective offset, PR.PEEK.U8 returns x as 0 to 255, PR.PEEK.S8 as -128 to 127, PR.PEEK.CHAR as the code; nothing but the result changes, the cursor included. -/
def Obligations.PeekOneByteFields : Prop :=
  ∀ (s : State) (off : Word32) (k : Nat) (x : Byte), s.pr.valid = true → offsetIs off s.pr.buf.length k →
    s.pr.buf[k]? = some x →
    returnsInt (.prPeekU8 off) s x.toNat ∧ returnsInt (.prPeekS8 off) s (signed8 x.toNat) ∧
    onlyResult (.prPeekChar off) s (.value (.char x))

/-- When the reader is valid and its buffer holds x0, x1 from the effective offset on, U16LE returns x0 + 256*x1, U16BE returns 256*x0 + x1, S16LE and S16BE the same numbers as two's complement; nothing but the result changes. -/
def Obligations.PeekTwoByteFields : Prop :=
  ∀ (s : State) (off : Word32) (k : Nat) (x0 x1 : Byte), s.pr.valid = true → offsetIs off s.pr.buf.length k →
    s.pr.buf[k]? = some x0 → s.pr.buf[k + 1]? = some x1 →
    returnsInt (.prPeekU16LE off) s (x0.toNat + 256 * x1.toNat : Nat) ∧
    returnsInt (.prPeekS16LE off) s (signed16 (x0.toNat + 256 * x1.toNat)) ∧
    returnsInt (.prPeekU16BE off) s (256 * x0.toNat + x1.toNat : Nat) ∧
    returnsInt (.prPeekS16BE off) s (signed16 (256 * x0.toNat + x1.toNat))

/-- When the reader is valid and its buffer holds x0 to x3 from the effective offset on, U32LE returns x0 + 2^8*x1 + 2^16*x2 + 2^24*x3, U32BE the number with x0 most significant, S32LE and S32BE the same numbers as two's complement, F32 the little-endian 32-bit pattern; nothing but the result changes. -/
def Obligations.PeekFourByteFields : Prop :=
  ∀ (s : State) (off : Word32) (k : Nat) (x0 x1 x2 x3 : Byte), s.pr.valid = true → offsetIs off s.pr.buf.length k →
    s.pr.buf[k]? = some x0 → s.pr.buf[k + 1]? = some x1 → s.pr.buf[k + 2]? = some x2 → s.pr.buf[k + 3]? = some x3 →
    returnsInt (.prPeekU32LE off) s (x0.toNat + 256 * x1.toNat + 65536 * x2.toNat + 16777216 * x3.toNat : Nat) ∧
    returnsInt (.prPeekS32LE off) s (signed32 (x0.toNat + 256 * x1.toNat + 65536 * x2.toNat + 16777216 * x3.toNat)) ∧
    returnsInt (.prPeekU32BE off) s (16777216 * x0.toNat + 65536 * x1.toNat + 256 * x2.toNat + x3.toNat : Nat) ∧
    returnsInt (.prPeekS32BE off) s (signed32 (16777216 * x0.toNat + 65536 * x1.toNat + 256 * x2.toNat + x3.toNat)) ∧
    onlyResult (.prPeekF32 off) s (.value (.bits32 (x3 ++ x2 ++ x1 ++ x0)))

/-- When the reader is valid and its buffer holds x0 to x7 from the effective offset on, PR.PEEK.F64 returns the pattern with x0 least significant; nothing but the result changes. -/
def Obligations.PeekEightByteField : Prop :=
  ∀ (s : State) (off : Word32) (k : Nat) (x0 x1 x2 x3 x4 x5 x6 x7 : Byte), s.pr.valid = true →
    offsetIs off s.pr.buf.length k → (s.pr.buf.drop k).take 8 = [x0, x1, x2, x3, x4, x5, x6, x7] →
    onlyResult (.prPeekF64 off) s (.value (.bits64 (x7 ++ x6 ++ x5 ++ x4 ++ x3 ++ x2 ++ x1 ++ x0)))

/-- When the reader is valid and its buffer holds the bytes of the field at the cursor, each of the thirteen scalar PR.READ commands returns them as its type says and advances the cursor by 1, 2, 4 or 8; nothing else changes. -/
def Obligations.ReadScalarFieldsAdvanceTheCursor : Prop :=
  (∀ (s : State) (x : Byte), s.pr.valid = true → s.pr.buf[s.pr.cur]? = some x →
    readsInt .prReadU8 s 1 x.toNat ∧ readsInt .prReadS8 s 1 (signed8 x.toNat) ∧ readsValue .prReadChar s 1 (.char x)) ∧
  (∀ (s : State) (x0 x1 : Byte), s.pr.valid = true → s.pr.buf[s.pr.cur]? = some x0 → s.pr.buf[s.pr.cur + 1]? = some x1 →
    readsInt .prReadU16LE s 2 (x0.toNat + 256 * x1.toNat : Nat) ∧ readsInt .prReadS16LE s 2 (signed16 (x0.toNat + 256 * x1.toNat)) ∧
    readsInt .prReadU16BE s 2 (256 * x0.toNat + x1.toNat : Nat) ∧ readsInt .prReadS16BE s 2 (signed16 (256 * x0.toNat + x1.toNat))) ∧
  (∀ (s : State) (x0 x1 x2 x3 : Byte), s.pr.valid = true →
    s.pr.buf[s.pr.cur]? = some x0 → s.pr.buf[s.pr.cur + 1]? = some x1 → s.pr.buf[s.pr.cur + 2]? = some x2 → s.pr.buf[s.pr.cur + 3]? = some x3 →
    readsInt .prReadU32LE s 4 (x0.toNat + 256 * x1.toNat + 65536 * x2.toNat + 16777216 * x3.toNat : Nat) ∧
    readsInt .prReadS32LE s 4 (signed32 (x0.toNat + 256 * x1.toNat + 65536 * x2.toNat + 16777216 * x3.toNat)) ∧
    readsInt .prReadU32BE s 4 (16777216 * x0.toNat + 65536 * x1.toNat + 256 * x2.toNat + x3.toNat : Nat) ∧
    readsInt .prReadS32BE s 4 (signed32 (16777216 * x0.toNat + 65536 * x1.toNat + 256 * x2.toNat + x3.toNat)) ∧
    readsValue .prReadF32 s 4 (.bits32 (x3 ++ x2 ++ x1 ++ x0))) ∧
  (∀ (s : State) (x0 x1 x2 x3 x4 x5 x6 x7 : Byte), s.pr.valid = true →
    (s.pr.buf.drop s.pr.cur).take 8 = [x0, x1, x2, x3, x4, x5, x6, x7] →
    readsValue .prReadF64 s 8 (.bits64 (x7 ++ x6 ++ x5 ++ x4 ++ x3 ++ x2 ++ x1 ++ x0)))

/-- With a valid reader and n below 2^31: PR.PEEK.BYTES returns the n bytes from the effective offset on when they all lie in the buffer (n = 0 included, up to the end), and else raises BoundsError(off, n); PR.READ.BYTES does the same at the cursor, which moves by n only on success. With n at 2^31 or more both are refused with OperandRange. Nothing else changes in any case. -/
def Obligations.PeekAndReadBytesCopyASubArray : Prop :=
  (∀ (s : State) (off n : Word32) (pre mid post : List Byte), s.pr.valid = true → n.toNat < 2 ^ 31 →
    s.pr.buf = pre ++ mid ++ post → mid.length = n.toNat →
    (offsetIs off s.pr.buf.length pre.length → onlyResult (.prPeekBytes off n) s (.value (.bytes mid))) ∧
    (s.pr.cur = pre.length → readsValue (.prReadBytes n) s n.toNat (.bytes mid))) ∧
  (∀ (s : State) (off n : Word32), s.pr.valid = true → n.toNat < 2 ^ 31 →
    (offsetBad off s.pr.buf.length n.toNat →
      onlyResult (.prPeekBytes off n) s (.fault (.boundsError off.toInt n.toNat))) ∧
    (s.pr.buf.length < s.pr.cur + n.toNat →
      onlyResult (.prReadBytes n) s (.fault (.boundsError s.pr.cur n.toNat)))) ∧
  (∀ (s : State) (off n : Word32), s.pr.valid = true → 2 ^ 31 ≤ n.toNat →
    onlyResult (.prPeekBytes off n) s (.refused .operandRange) ∧ onlyResult (.prReadBytes n) s (.refused .operandRange))

/-- With a valid reader, each scalar PR.PEEK whose W bytes at the effective offset do not all lie in the buffer raises BoundsError with the offset operand and W, and each scalar PR.READ whose W bytes at the cursor do not raises BoundsError with the cursor and W; no cursor moves and nothing but the result changes. -/
def Obligations.ReaderOutOfRangeFaults : Prop :=
  (∀ (s : State) (off : Word32), s.pr.valid = true →
    (offsetBad off s.pr.buf.length 1 →
      onlyResult (.prPeekU8 off) s (.fault (.boundsError off.toInt 1)) ∧
      onlyResult (.prPeekS8 off) s (.fault (.boundsError off.toInt 1)) ∧
      onlyResult (.prPeekChar off) s (.fault (.boundsError off.toInt 1))) ∧
    (offsetBad off s.pr.buf.length 2 →
      onlyResult (.prPeekU16LE off) s (.fault (.boundsError off.toInt 2)) ∧
      onlyResult (.prPeekS16LE off) s (.fault (.boundsError off.toInt 2)) ∧
      onlyResult (.prPeekU16BE off) s (.fault (.boundsError off.toInt 2)) ∧
      onlyResult (.prPeekS16BE off) s (.fault (.boundsError off.toInt 2))) ∧
    (offsetBad off s.pr.buf.length 4 →
      onlyResult (.prPeekU32LE off) s (.fault (.boundsError off.toInt 4)) ∧
      onlyResult (.prPeekS32LE off) s (.fault (.boundsError off.toInt 4)) ∧
      onlyResult (.prPeekU32BE off) s (.fault (.boundsError off.toInt 4)) ∧
      onlyResult (.prPeekS32BE off) s (.fault (.boundsError off.toInt 4)) ∧
      onlyResult (.prPeekF32 off) s (.fault (.boundsError off.toInt 4))) ∧
    (offsetBad off s.pr.buf.length 8 →
      onlyResult (.prPeekF64 off) s (.fault (.boundsError off.toInt 8)))) ∧
  (∀ s : State, s.pr.valid = true →
    (s.pr.buf.length < s.pr.cur + 1 →
      onlyResult .prReadU8 s (.fault (.boundsError s.pr.cur 1)) ∧
      onlyResult .prReadS8 s (.fault (.boundsError s.pr.cur 1)) ∧
      onlyResult .prReadChar s (.fault (.boundsError s.pr.cur 1))) ∧
    (s.pr.buf.length < s.pr.cur + 2 →
      onlyResult .prReadU16LE s (.fault (.boundsError s.pr.cur 2)) ∧
      onlyResult .prReadS16LE s (.fault (.boundsError s.pr.cur 2)) ∧
      onlyResult .prReadU16BE s (.fault (.boundsError s.pr.cur 2)) ∧
      onlyResult .prReadS16BE s (.fault (.boundsError s.pr.cur 2))) ∧
    (s.pr.buf.length < s.pr.cur + 4 →
      onlyResult .prReadU32LE s (.fault (.boundsError s.pr.cur 4)) ∧
      onlyResult .prReadS32LE s (.fault (.boundsError s.pr.cur 4)) ∧
      onlyResult .prReadU32BE s (.fault (.boundsError s.pr.cur 4)) ∧
      onlyResult .prReadS32BE s (.fault (.boundsError s.pr.cur 4)) ∧
      onlyResult .prReadF32 s (.fault (.boundsError s.pr.cur 4))) ∧
    (s.pr.buf.length < s.pr.cur + 8 →
      onlyResult .prReadF64 s (.fault (.boundsError s.pr.cur 8))))

/-- For a valid reader of fewer than 2^31 bytes, every position k below the length and every scalar PR.PEEK: if the W bytes from k on lie in the buffer, the command returns the same value at offset k and at offset k - pr_len; if they do not, which a field of one byte never meets, it faults at both (R141 (ii)). -/
def Obligations.NegativeOffsetNamesTheSameField : Prop :=
  ∀ (s : State) (k : Nat), s.pr.valid = true → k < s.pr.buf.length → s.pr.buf.length < 2 ^ 31 →
    (k + 1 ≤ s.pr.buf.length →
      exec (.prPeekU8 (BitVec.ofInt 32 k)) s = exec (.prPeekU8 (BitVec.ofInt 32 ((k : Int) - s.pr.buf.length))) s ∧
      exec (.prPeekS8 (BitVec.ofInt 32 k)) s = exec (.prPeekS8 (BitVec.ofInt 32 ((k : Int) - s.pr.buf.length))) s ∧
      exec (.prPeekChar (BitVec.ofInt 32 k)) s = exec (.prPeekChar (BitVec.ofInt 32 ((k : Int) - s.pr.buf.length))) s) ∧
    (k + 2 ≤ s.pr.buf.length →
      exec (.prPeekU16LE (BitVec.ofInt 32 k)) s = exec (.prPeekU16LE (BitVec.ofInt 32 ((k : Int) - s.pr.buf.length))) s ∧
      exec (.prPeekS16LE (BitVec.ofInt 32 k)) s = exec (.prPeekS16LE (BitVec.ofInt 32 ((k : Int) - s.pr.buf.length))) s ∧
      exec (.prPeekU16BE (BitVec.ofInt 32 k)) s = exec (.prPeekU16BE (BitVec.ofInt 32 ((k : Int) - s.pr.buf.length))) s ∧
      exec (.prPeekS16BE (BitVec.ofInt 32 k)) s = exec (.prPeekS16BE (BitVec.ofInt 32 ((k : Int) - s.pr.buf.length))) s) ∧
    (s.pr.buf.length < k + 2 →
      onlyResult (.prPeekU16LE (BitVec.ofInt 32 k)) s (.fault (.boundsError k 2)) ∧
      onlyResult (.prPeekU16LE (BitVec.ofInt 32 ((k : Int) - s.pr.buf.length))) s (.fault (.boundsError ((k : Int) - s.pr.buf.length) 2)) ∧
      onlyResult (.prPeekS16LE (BitVec.ofInt 32 k)) s (.fault (.boundsError k 2)) ∧
      onlyResult (.prPeekS16LE (BitVec.ofInt 32 ((k : Int) - s.pr.buf.length))) s (.fault (.boundsError ((k : Int) - s.pr.buf.length) 2)) ∧
      onlyResult (.prPeekU16BE (BitVec.ofInt 32 k)) s (.fault (.boundsError k 2)) ∧
      onlyResult (.prPeekU16BE (BitVec.ofInt 32 ((k : Int) - s.pr.buf.length))) s (.fault (.boundsError ((k : Int) - s.pr.buf.length) 2)) ∧
      onlyResult (.prPeekS16BE (BitVec.ofInt 32 k)) s (.fault (.boundsError k 2)) ∧
      onlyResult (.prPeekS16BE (BitVec.ofInt 32 ((k : Int) - s.pr.buf.length))) s (.fault (.boundsError ((k : Int) - s.pr.buf.length) 2))) ∧
    (k + 4 ≤ s.pr.buf.length →
      exec (.prPeekU32LE (BitVec.ofInt 32 k)) s = exec (.prPeekU32LE (BitVec.ofInt 32 ((k : Int) - s.pr.buf.length))) s ∧
      exec (.prPeekS32LE (BitVec.ofInt 32 k)) s = exec (.prPeekS32LE (BitVec.ofInt 32 ((k : Int) - s.pr.buf.length))) s ∧
      exec (.prPeekU32BE (BitVec.ofInt 32 k)) s = exec (.prPeekU32BE (BitVec.ofInt 32 ((k : Int) - s.pr.buf.length))) s ∧
      exec (.prPeekS32BE (BitVec.ofInt 32 k)) s = exec (.prPeekS32BE (BitVec.ofInt 32 ((k : Int) - s.pr.buf.length))) s ∧
      exec (.prPeekF32 (BitVec.ofInt 32 k)) s = exec (.prPeekF32 (BitVec.ofInt 32 ((k : Int) - s.pr.buf.length))) s) ∧
    (s.pr.buf.length < k + 4 →
      onlyResult (.prPeekU32LE (BitVec.ofInt 32 k)) s (.fault (.boundsError k 4)) ∧
      onlyResult (.prPeekU32LE (BitVec.ofInt 32 ((k : Int) - s.pr.buf.length))) s (.fault (.boundsError ((k : Int) - s.pr.buf.length) 4)) ∧
      onlyResult (.prPeekS32LE (BitVec.ofInt 32 k)) s (.fault (.boundsError k 4)) ∧
      onlyResult (.prPeekS32LE (BitVec.ofInt 32 ((k : Int) - s.pr.buf.length))) s (.fault (.boundsError ((k : Int) - s.pr.buf.length) 4)) ∧
      onlyResult (.prPeekU32BE (BitVec.ofInt 32 k)) s (.fault (.boundsError k 4)) ∧
      onlyResult (.prPeekU32BE (BitVec.ofInt 32 ((k : Int) - s.pr.buf.length))) s (.fault (.boundsError ((k : Int) - s.pr.buf.length) 4)) ∧
      onlyResult (.prPeekS32BE (BitVec.ofInt 32 k)) s (.fault (.boundsError k 4)) ∧
      onlyResult (.prPeekS32BE (BitVec.ofInt 32 ((k : Int) - s.pr.buf.length))) s (.fault (.boundsError ((k : Int) - s.pr.buf.length) 4)) ∧
      onlyResult (.prPeekF32 (BitVec.ofInt 32 k)) s (.fault (.boundsError k 4)) ∧
      onlyResult (.prPeekF32 (BitVec.ofInt 32 ((k : Int) - s.pr.buf.length))) s (.fault (.boundsError ((k : Int) - s.pr.buf.length) 4))) ∧
    (k + 8 ≤ s.pr.buf.length →
      exec (.prPeekF64 (BitVec.ofInt 32 k)) s = exec (.prPeekF64 (BitVec.ofInt 32 ((k : Int) - s.pr.buf.length))) s) ∧
    (s.pr.buf.length < k + 8 →
      onlyResult (.prPeekF64 (BitVec.ofInt 32 k)) s (.fault (.boundsError k 8)) ∧
      onlyResult (.prPeekF64 (BitVec.ofInt 32 ((k : Int) - s.pr.buf.length))) s (.fault (.boundsError ((k : Int) - s.pr.buf.length) 8)))

/-! ## Packed writer -/

/-- PW.NEW n with n below 2^31 completes with Ok: the writer is valid, holds n bytes of 0x00, its cursor is 0, and nothing else changes; with n at 2^31 or more it is refused with OperandRange and changes nothing. -/
def Obligations.WriterNewIsZeroed : Prop :=
  ∀ (s : State) (n : Word32),
    (n.toNat < 2 ^ 31 → exec (.pwNew n) s = .next ((s.withPw ⟨true, List.replicate n.toNat 0, 0⟩).withResult (some .ok))) ∧
    (2 ^ 31 ≤ n.toNat → onlyResult (.pwNew n) s (.refused .operandRange))

/-- With a valid writer and the W bytes at the effective offset k inside the buffer, each of the thirteen scalar PW.POKE commands completes with Ok and sets bytes k to k+W-1 of pw_buf to the bytes of its value, least significant first for the LE, float, 8-bit and CHAR types, most significant first for the BE types; every other byte, the cursor and everything else stays. -/
def Obligations.PokeScalarFieldsStoreTheirBytes : Prop :=
  ∀ (s : State) (off : Word32) (k : Nat) (v8 : BitVec 8) (v16 : BitVec 16) (v32 : BitVec 32) (v64 : BitVec 64), s.pw.valid = true → offsetIs off s.pw.buf.length k →
    (k + 1 ≤ s.pw.buf.length →
      pokes (.pwPokeU8 off v8) s (setBytes s.pw.buf k [byteOf v8 0]) ∧
      pokes (.pwPokeS8 off v8) s (setBytes s.pw.buf k [byteOf v8 0]) ∧
      pokes (.pwPokeChar off v8) s (setBytes s.pw.buf k [byteOf v8 0])) ∧
    (k + 2 ≤ s.pw.buf.length →
      pokes (.pwPokeU16LE off v16) s (setBytes s.pw.buf k [byteOf v16 0, byteOf v16 1]) ∧
      pokes (.pwPokeS16LE off v16) s (setBytes s.pw.buf k [byteOf v16 0, byteOf v16 1]) ∧
      pokes (.pwPokeU16BE off v16) s (setBytes s.pw.buf k [byteOf v16 1, byteOf v16 0]) ∧
      pokes (.pwPokeS16BE off v16) s (setBytes s.pw.buf k [byteOf v16 1, byteOf v16 0])) ∧
    (k + 4 ≤ s.pw.buf.length →
      pokes (.pwPokeU32LE off v32) s (setBytes s.pw.buf k [byteOf v32 0, byteOf v32 1, byteOf v32 2, byteOf v32 3]) ∧
      pokes (.pwPokeS32LE off v32) s (setBytes s.pw.buf k [byteOf v32 0, byteOf v32 1, byteOf v32 2, byteOf v32 3]) ∧
      pokes (.pwPokeU32BE off v32) s (setBytes s.pw.buf k [byteOf v32 3, byteOf v32 2, byteOf v32 1, byteOf v32 0]) ∧
      pokes (.pwPokeS32BE off v32) s (setBytes s.pw.buf k [byteOf v32 3, byteOf v32 2, byteOf v32 1, byteOf v32 0]) ∧
      pokes (.pwPokeF32 off v32) s (setBytes s.pw.buf k [byteOf v32 0, byteOf v32 1, byteOf v32 2, byteOf v32 3])) ∧
    (k + 8 ≤ s.pw.buf.length →
      pokes (.pwPokeF64 off v64) s (setBytes s.pw.buf k [byteOf v64 0, byteOf v64 1, byteOf v64 2, byteOf v64 3, byteOf v64 4, byteOf v64 5, byteOf v64 6, byteOf v64 7]))

/-- With a valid writer and W bytes left at the cursor, each of the thirteen scalar PW.WRITE commands completes with Ok, sets the W bytes at the cursor to the bytes of its value in its order, and advances the cursor by W; every other byte and everything else stays. -/
def Obligations.WriteScalarFieldsStoreAndAdvance : Prop :=
  ∀ (s : State) (v8 : BitVec 8) (v16 : BitVec 16) (v32 : BitVec 32) (v64 : BitVec 64), s.pw.valid = true →
    (s.pw.cur + 1 ≤ s.pw.buf.length →
      writes (.pwWriteU8 v8) s 1 (setBytes s.pw.buf s.pw.cur [byteOf v8 0]) ∧
      writes (.pwWriteS8 v8) s 1 (setBytes s.pw.buf s.pw.cur [byteOf v8 0]) ∧
      writes (.pwWriteChar v8) s 1 (setBytes s.pw.buf s.pw.cur [byteOf v8 0])) ∧
    (s.pw.cur + 2 ≤ s.pw.buf.length →
      writes (.pwWriteU16LE v16) s 2 (setBytes s.pw.buf s.pw.cur [byteOf v16 0, byteOf v16 1]) ∧
      writes (.pwWriteS16LE v16) s 2 (setBytes s.pw.buf s.pw.cur [byteOf v16 0, byteOf v16 1]) ∧
      writes (.pwWriteU16BE v16) s 2 (setBytes s.pw.buf s.pw.cur [byteOf v16 1, byteOf v16 0]) ∧
      writes (.pwWriteS16BE v16) s 2 (setBytes s.pw.buf s.pw.cur [byteOf v16 1, byteOf v16 0])) ∧
    (s.pw.cur + 4 ≤ s.pw.buf.length →
      writes (.pwWriteU32LE v32) s 4 (setBytes s.pw.buf s.pw.cur [byteOf v32 0, byteOf v32 1, byteOf v32 2, byteOf v32 3]) ∧
      writes (.pwWriteS32LE v32) s 4 (setBytes s.pw.buf s.pw.cur [byteOf v32 0, byteOf v32 1, byteOf v32 2, byteOf v32 3]) ∧
      writes (.pwWriteU32BE v32) s 4 (setBytes s.pw.buf s.pw.cur [byteOf v32 3, byteOf v32 2, byteOf v32 1, byteOf v32 0]) ∧
      writes (.pwWriteS32BE v32) s 4 (setBytes s.pw.buf s.pw.cur [byteOf v32 3, byteOf v32 2, byteOf v32 1, byteOf v32 0]) ∧
      writes (.pwWriteF32 v32) s 4 (setBytes s.pw.buf s.pw.cur [byteOf v32 0, byteOf v32 1, byteOf v32 2, byteOf v32 3])) ∧
    (s.pw.cur + 8 ≤ s.pw.buf.length →
      writes (.pwWriteF64 v64) s 8 (setBytes s.pw.buf s.pw.cur [byteOf v64 0, byteOf v64 1, byteOf v64 2, byteOf v64 3, byteOf v64 4, byteOf v64 5, byteOf v64 6, byteOf v64 7]))

/-- With a valid writer and data shorter than 2^31 bytes: where the data fits at the effective offset (at the cursor), PW.POKE.BYTES (PW.WRITE.BYTES) completes with Ok, the buffer keeps its length, reads the data there and every other byte as before, and the cursor stays (advances by the length); where it does not fit, BoundsError is raised and nothing but the result changes; with 2^31 bytes or more both are refused. -/
def Obligations.PokeAndWriteBytesStoreASubArray : Prop :=
  (∀ (s : State) (off : Word32) (k : Nat) (data : List Byte), s.pw.valid = true → data.length < 2 ^ 31 →
    (offsetIs off s.pw.buf.length k → k + data.length ≤ s.pw.buf.length →
      ∃ buf : List Byte, pokes (.pwPokeBytes off data) s buf ∧ buf.length = s.pw.buf.length ∧
        ∀ a : Nat, buf[a]? = if k ≤ a ∧ a < k + data.length then data[a - k]? else s.pw.buf[a]?) ∧
    (s.pw.cur + data.length ≤ s.pw.buf.length →
      ∃ buf : List Byte, writes (.pwWriteBytes data) s data.length buf ∧ buf.length = s.pw.buf.length ∧
        ∀ a : Nat, buf[a]? = if s.pw.cur ≤ a ∧ a < s.pw.cur + data.length then data[a - s.pw.cur]? else s.pw.buf[a]?) ∧
    (offsetBad off s.pw.buf.length data.length →
      onlyResult (.pwPokeBytes off data) s (.fault (.boundsError off.toInt data.length))) ∧
    (s.pw.buf.length < s.pw.cur + data.length →
      onlyResult (.pwWriteBytes data) s (.fault (.boundsError s.pw.cur data.length)))) ∧
  (∀ (s : State) (off : Word32) (data : List Byte), s.pw.valid = true → 2 ^ 31 ≤ data.length →
    onlyResult (.pwPokeBytes off data) s (.refused .operandRange) ∧
    onlyResult (.pwWriteBytes data) s (.refused .operandRange))

/-- With a valid writer, each scalar PW.POKE whose W bytes at the effective offset do not all lie in the buffer raises BoundsError with the offset operand and W, and each scalar PW.WRITE whose W bytes at the cursor do not raises BoundsError with the cursor and W; no byte is written, no cursor moves, nothing but the result changes. -/
def Obligations.WriterOutOfRangeFaults : Prop :=
  (∀ (s : State) (off : Word32) (v8 : BitVec 8) (v16 : BitVec 16) (v32 : BitVec 32) (v64 : BitVec 64), s.pw.valid = true →
    (offsetBad off s.pw.buf.length 1 →
      onlyResult (.pwPokeU8 off v8) s (.fault (.boundsError off.toInt 1)) ∧
      onlyResult (.pwPokeS8 off v8) s (.fault (.boundsError off.toInt 1)) ∧
      onlyResult (.pwPokeChar off v8) s (.fault (.boundsError off.toInt 1))) ∧
    (offsetBad off s.pw.buf.length 2 →
      onlyResult (.pwPokeU16LE off v16) s (.fault (.boundsError off.toInt 2)) ∧
      onlyResult (.pwPokeS16LE off v16) s (.fault (.boundsError off.toInt 2)) ∧
      onlyResult (.pwPokeU16BE off v16) s (.fault (.boundsError off.toInt 2)) ∧
      onlyResult (.pwPokeS16BE off v16) s (.fault (.boundsError off.toInt 2))) ∧
    (offsetBad off s.pw.buf.length 4 →
      onlyResult (.pwPokeU32LE off v32) s (.fault (.boundsError off.toInt 4)) ∧
      onlyResult (.pwPokeS32LE off v32) s (.fault (.boundsError off.toInt 4)) ∧
      onlyResult (.pwPokeU32BE off v32) s (.fault (.boundsError off.toInt 4)) ∧
      onlyResult (.pwPokeS32BE off v32) s (.fault (.boundsError off.toInt 4)) ∧
      onlyResult (.pwPokeF32 off v32) s (.fault (.boundsError off.toInt 4))) ∧
    (offsetBad off s.pw.buf.length 8 →
      onlyResult (.pwPokeF64 off v64) s (.fault (.boundsError off.toInt 8)))) ∧
  (∀ (s : State) (v8 : BitVec 8) (v16 : BitVec 16) (v32 : BitVec 32) (v64 : BitVec 64), s.pw.valid = true →
    (s.pw.buf.length < s.pw.cur + 1 →
      onlyResult (.pwWriteU8 v8) s (.fault (.boundsError s.pw.cur 1)) ∧
      onlyResult (.pwWriteS8 v8) s (.fault (.boundsError s.pw.cur 1)) ∧
      onlyResult (.pwWriteChar v8) s (.fault (.boundsError s.pw.cur 1))) ∧
    (s.pw.buf.length < s.pw.cur + 2 →
      onlyResult (.pwWriteU16LE v16) s (.fault (.boundsError s.pw.cur 2)) ∧
      onlyResult (.pwWriteS16LE v16) s (.fault (.boundsError s.pw.cur 2)) ∧
      onlyResult (.pwWriteU16BE v16) s (.fault (.boundsError s.pw.cur 2)) ∧
      onlyResult (.pwWriteS16BE v16) s (.fault (.boundsError s.pw.cur 2))) ∧
    (s.pw.buf.length < s.pw.cur + 4 →
      onlyResult (.pwWriteU32LE v32) s (.fault (.boundsError s.pw.cur 4)) ∧
      onlyResult (.pwWriteS32LE v32) s (.fault (.boundsError s.pw.cur 4)) ∧
      onlyResult (.pwWriteU32BE v32) s (.fault (.boundsError s.pw.cur 4)) ∧
      onlyResult (.pwWriteS32BE v32) s (.fault (.boundsError s.pw.cur 4)) ∧
      onlyResult (.pwWriteF32 v32) s (.fault (.boundsError s.pw.cur 4))) ∧
    (s.pw.buf.length < s.pw.cur + 8 →
      onlyResult (.pwWriteF64 v64) s (.fault (.boundsError s.pw.cur 8))))

/-- Poke, hand the writer's buffer to `PR.NEW`, peek: each completes, and the last returns `v`. -/
def Sys2Proof.Claim.roundTrips (poke peek : Instr) (s : State) (v : Value) : Prop :=
  ∃ t u r : State, exec poke s = .next t ∧ exec (.prNew t.pw.buf) t = .next u ∧ exec peek u = .next r ∧
    r.result = some (.value v)

/-- For a valid writer of fewer than 2^31 bytes and every in-range offset of either sign: after PW.POKE of a type and PR.NEW on the writer's buffer, PR.PEEK of the same type at the same offset returns the value stored, for all thirteen scalar types and every pattern; with the little- and big-endian commands of a type swapped (U16, S16, U32, S32) it returns the pattern with its bytes reversed, the signed types as its two's complement. -/
def Obligations.WriterAndReaderAreInverse : Prop :=
  ∀ (s : State) (off : Word32) (k : Nat) (v8 : BitVec 8) (v16 : BitVec 16) (v32 : BitVec 32) (v64 : BitVec 64), s.pw.valid = true → s.pw.buf.length < 2 ^ 31 →
    offsetIs off s.pw.buf.length k →
    (k + 1 ≤ s.pw.buf.length →
      roundTrips (.pwPokeU8 off v8) (.prPeekU8 off) s (.int v8.toNat) ∧
      roundTrips (.pwPokeS8 off v8) (.prPeekS8 off) s (.int v8.toInt) ∧
      roundTrips (.pwPokeChar off v8) (.prPeekChar off) s (.char v8)) ∧
    (k + 2 ≤ s.pw.buf.length →
      roundTrips (.pwPokeU16LE off v16) (.prPeekU16LE off) s (.int v16.toNat) ∧
      roundTrips (.pwPokeS16LE off v16) (.prPeekS16LE off) s (.int v16.toInt) ∧
      roundTrips (.pwPokeU16BE off v16) (.prPeekU16BE off) s (.int v16.toNat) ∧
      roundTrips (.pwPokeS16BE off v16) (.prPeekS16BE off) s (.int v16.toInt) ∧
      roundTrips (.pwPokeU16LE off v16) (.prPeekU16BE off) s (.int (byteOf v16 0 ++ byteOf v16 1).toNat) ∧
      roundTrips (.pwPokeU16BE off v16) (.prPeekU16LE off) s (.int (byteOf v16 0 ++ byteOf v16 1).toNat) ∧
      roundTrips (.pwPokeS16LE off v16) (.prPeekS16BE off) s (.int (byteOf v16 0 ++ byteOf v16 1).toInt) ∧
      roundTrips (.pwPokeS16BE off v16) (.prPeekS16LE off) s (.int (byteOf v16 0 ++ byteOf v16 1).toInt)) ∧
    (k + 4 ≤ s.pw.buf.length →
      roundTrips (.pwPokeU32LE off v32) (.prPeekU32LE off) s (.int v32.toNat) ∧
      roundTrips (.pwPokeS32LE off v32) (.prPeekS32LE off) s (.int v32.toInt) ∧
      roundTrips (.pwPokeU32BE off v32) (.prPeekU32BE off) s (.int v32.toNat) ∧
      roundTrips (.pwPokeS32BE off v32) (.prPeekS32BE off) s (.int v32.toInt) ∧
      roundTrips (.pwPokeF32 off v32) (.prPeekF32 off) s (.bits32 v32) ∧
      roundTrips (.pwPokeU32LE off v32) (.prPeekU32BE off) s (.int (byteOf v32 0 ++ byteOf v32 1 ++ byteOf v32 2 ++ byteOf v32 3).toNat) ∧
      roundTrips (.pwPokeU32BE off v32) (.prPeekU32LE off) s (.int (byteOf v32 0 ++ byteOf v32 1 ++ byteOf v32 2 ++ byteOf v32 3).toNat) ∧
      roundTrips (.pwPokeS32LE off v32) (.prPeekS32BE off) s (.int (byteOf v32 0 ++ byteOf v32 1 ++ byteOf v32 2 ++ byteOf v32 3).toInt) ∧
      roundTrips (.pwPokeS32BE off v32) (.prPeekS32LE off) s (.int (byteOf v32 0 ++ byteOf v32 1 ++ byteOf v32 2 ++ byteOf v32 3).toInt)) ∧
    (k + 8 ≤ s.pw.buf.length →
      roundTrips (.pwPokeF64 off v64) (.prPeekF64 off) s (.bits64 v64))

/-! ## Frame codec -/

/-- For class c, id i and payload P of n <= 65535 bytes the serialized bytes are 0xB5, 0x62, c, i, n mod 256, n >> 8, the payload, and the high and low byte of the checksum that get() gives after update8 of bytes [2, 6+n) in wire order on a fresh accumulator; n + 8 bytes in all. For every build (either checksum order, any initial value). -/
def Obligations.SerializedFrameLayout : Prop :=
  ∀ (bd : Build) (c i : Byte) (p : List Byte), p.length ≤ 65535 →
    let sb := serFrame bd.config c i p
    let ck := (cksGet bd.config (((sb.drop 2).take (p.length + 4)).foldl cksFeed (cksFresh bd.config))).toNat
    sb.length = p.length + 8 ∧ sb[0]? = some 0xB5 ∧ sb[1]? = some 0x62 ∧ sb[2]? = some c ∧ sb[3]? = some i ∧
    sb[4]? = some (BitVec.ofNat 8 (p.length % 256)) ∧ sb[5]? = some (BitVec.ofNat 8 (p.length / 256)) ∧
    (∀ k, k < p.length → sb[6 + k]? = p[k]?) ∧
    sb[6 + p.length]? = some (BitVec.ofNat 8 (ck / 256)) ∧ sb[7 + p.length]? = some (BitVec.ofNat 8 (ck % 256))

/-- For every class, id and payload of at most 65535 bytes and every build, parse of ser is the class, the id, the payload and the checksum that ser wrote; conversely if parse of a buffer is not Absent, the payload has at most 65535 bytes, the checksum is the one over the frame's body and ser of what it found is the buffer itself. -/
def Obligations.ParseAndSerializeAreInverse : Prop :=
  (∀ (bd : Build) (c i : Byte) (p : List Byte), p.length ≤ 65535 →
    parseFrame bd.config (serFrame bd.config c i p) = some ⟨c, i, p, cksOver bd.config (frameBody c i p)⟩) ∧
  (∀ (bd : Build) (b : List Byte) (r : Parsed), parseFrame bd.config b = some r →
    r.payload.length ≤ 65535 ∧ r.ck = cksOver bd.config (frameBody r.cls r.id r.payload) ∧ serFrame bd.config r.cls r.id r.payload = b)

/-- If a buffer parses as a frame, then with exactly one byte changed, at any position and to any other value, it parses as Absent; for either checksum order and any starting value of the accumulators. -/
def Obligations.OneChangedByteIsAlwaysCaught : Prop :=
  ∀ (bd : Build) (b : List Byte) (k : Nat) (x : Byte), (parseFrame bd.config b).isSome = true → k < b.length →
    b[k]? ≠ some x → parseFrame bd.config (b.set k x) = none

/-- FRM.NEW with a payload of at most 65535 bytes completes with Ok: the slot is valid with this class, id and payload and no memo; from 65536 to 2^31 - 1 bytes it raises FrameTooLong with the length, from 2^31 on it is refused with OperandRange, and then nothing but the result changes. -/
def Obligations.FrameNewChecksThePayloadLength : Prop :=
  ∀ (s : State) (c i : Byte) (p : List Byte),
    (p.length ≤ 65535 → exec (.frmNew c i p) s = .next ((s.withFrm ⟨true, c, i, p, none, none⟩).withResult (some .ok))) ∧
    (65536 ≤ p.length → p.length < 2 ^ 31 → onlyResult (.frmNew c i p) s (.fault (.frameTooLong p.length))) ∧
    (2 ^ 31 ≤ p.length → onlyResult (.frmNew c i p) s (.refused .operandRange))

/-- For a valid frame slot whose memo fields are not stale, FRM.SERIALIZE completes with the bytes ser of the slot's fields and both memos then set to them and to their checksum, and FRM.CHECKSUM with the checksum of the body and its memo set, frm_ser as it was; nothing else changes; and a later call of either returns the same and changes nothing more, FRM.CHECKSUM after FRM.SERIALIZE the checksum of those bytes. -/
def Obligations.SerializeAndChecksumMemoize : Prop :=
  ∀ s : State, s.frm.valid = true → frameOk s.cfg s.frm →
    let bytes := serFrame s.cfg s.frm.cls s.frm.id s.frm.payload
    let ck := cksOver s.cfg (frameBody s.frm.cls s.frm.id s.frm.payload)
    exec .frmSerialize s =
      .next ((s.withFrm { s.frm with ser := some bytes, ck := some ck }).withResult (some (.value (.bytes bytes)))) ∧
    exec .frmChecksum s = .next ((s.withFrm { s.frm with ck := some ck }).withResult (some (.value (.bits16 ck)))) ∧
    (∀ t, exec .frmSerialize s = .next t → exec .frmSerialize t = .next t ∧
      exec .frmChecksum t = .next (t.withResult (some (.value (.bits16 ck))))) ∧
    (∀ t, exec .frmChecksum s = .next t → exec .frmChecksum t = .next t)

/-- Given the serialized bytes of a frame, FRM.DESERIALIZE completes with the frame slot: valid, with that class, id and payload, both memos set from the bytes; given any other buffer shorter than 2^31 bytes it answers Absent, the valid bit is 0 and nothing else of the block changes (the other fields of the slot, unreadable now, keep what they held: the model's choice, log 10); a longer buffer is refused. -/
def Obligations.DeserializeLoadsOrEmptiesTheSlot : Prop :=
  (∀ (s : State) (c i : Byte) (p : List Byte), p.length ≤ 65535 →
    exec (.frmDeserialize (serFrame s.cfg c i p)) s =
      .next ((s.withFrm ⟨true, c, i, p, some (serFrame s.cfg c i p),
        some (cksOver s.cfg (frameBody c i p))⟩).withResult (some (.value .frameSlot)))) ∧
  (∀ (s : State) (b : List Byte), b.length < 2 ^ 31 →
    (∀ (c i : Byte) (p : List Byte), p.length ≤ 65535 → b ≠ serFrame s.cfg c i p) →
    exec (.frmDeserialize b) s = .next ((s.withFrm { s.frm with valid := false }).withResult (some .absent))) ∧
  (∀ (s : State) (b : List Byte), 2 ^ 31 ≤ b.length → onlyResult (.frmDeserialize b) s (.refused .operandRange))

/-! ## Transaction builder -/

/-- TXN.NEW always gives an empty builder; on a valid builder TXN.WITH sets the default address, TXN.WRITE and TXN.READ append a segment at their address (a Read of n zero bytes), TXN.WRITED and TXN.READD at the default address, and TXN.BUILD freezes the list into the transaction slot, not consumed, and uses the builder up (tb_segs and tb_default keep what they held: log 10); with addresses at most 127 and lengths below 2^31. Each answers Ok and changes nothing else. -/
def Obligations.BuilderCommandsComplete : Prop :=
  (∀ s : State, exec .txnNew s = .next ((s.withTb ⟨true, [], none⟩).withResult (some .ok))) ∧
  (∀ (s : State) (addr : Byte) (a d : Addr) (data : List Byte) (n : Word32), s.tb.valid = true →
    addr.toNat = a.toNat → data.length < 2 ^ 31 → n.toNat < 2 ^ 31 →
    exec (.txnWith addr) s = .next ((s.withTb { s.tb with dflt := some a }).withResult (some .ok)) ∧
    exec (.txnWrite addr data) s =
      .next ((s.withTb { s.tb with segs := s.tb.segs ++ [⟨.write, a, data⟩] }).withResult (some .ok)) ∧
    exec (.txnRead addr n) s =
      .next ((s.withTb { s.tb with segs := s.tb.segs ++ [⟨.read, a, List.replicate n.toNat 0⟩] }).withResult (some .ok)) ∧
    (s.tb.dflt = some d →
      exec (.txnWrited data) s =
        .next ((s.withTb { s.tb with segs := s.tb.segs ++ [⟨.write, d, data⟩] }).withResult (some .ok)) ∧
      exec (.txnReadd n) s =
        .next ((s.withTb { s.tb with segs := s.tb.segs ++ [⟨.read, d, List.replicate n.toNat 0⟩] }).withResult (some .ok))) ∧
    exec .txnBuild s =
      .next (((s.withTxn ⟨true, s.tb.segs, false⟩).withTb { s.tb with valid := false }).withResult (some .ok)))

/-- TXN.WITH, TXN.WRITE and TXN.READ on a valid builder, and TP.CONFIG always, with an address operand above 127 are refused with AddressRange and change nothing but the result; an operand of at most 127 is used as it is: TP.CONFIG and TXN.WITH store that number and TXN.WRITE and TXN.READ (with lengths below 2^31) append a segment at it. -/
def Obligations.AddressAbove127IsRefused : Prop :=
  (∀ (s : State) (addr : Byte) (data : List Byte) (n ceiling : Word32), 127 < addr.toNat →
    onlyResult (.tpConfig addr ceiling) s (.refused .addressRange) ∧
    (s.tb.valid = true →
      onlyResult (.txnWith addr) s (.refused .addressRange) ∧ onlyResult (.txnWrite addr data) s (.refused .addressRange) ∧
      onlyResult (.txnRead addr n) s (.refused .addressRange))) ∧
  (∀ (s : State) (addr : Byte) (data : List Byte) (n ceiling : Word32), addr.toNat ≤ 127 → s.tb.valid = true →
    data.length < 2 ^ 31 → n.toNat < 2 ^ 31 →
    ∃ (t u v w : State) (a : Addr), exec (.tpConfig addr ceiling) s = .next t ∧ exec (.txnWith addr) s = .next u ∧
      exec (.txnWrite addr data) s = .next v ∧ exec (.txnRead addr n) s = .next w ∧
      a.toNat = addr.toNat ∧ t.tp.addr = a ∧ u.tb.dflt = some a ∧
      v.tb.segs = s.tb.segs ++ [⟨.write, a, data⟩] ∧ w.tb.segs = s.tb.segs ++ [⟨.read, a, List.replicate n.toNat 0⟩])

/-- TXN.NEW, then TXN.WRITE or TXN.READ for each segment of a list in turn (Read segments with zero data, lengths below 2^31), then TXN.BUILD: the transaction slot holds exactly that list, in that order, and is valid and not consumed. -/
def Obligations.BuiltTransactionKeepsInsertionOrder : Prop :=
  ∀ (s : State) (gs : List Segment),
    (∀ g ∈ gs, g.data.length < 2 ^ 31 ∧ (g.dir = .read → g.data = List.replicate g.data.length 0)) →
    ∃ t : State, runUntil (fun _ => false) (.txnNew :: (gs.map appendCommand ++ [.txnBuild])) s = .next t ∧
      t.txn = ⟨true, gs, false⟩ ∧ t.tb.valid = false ∧ t.bus = s.bus ∧ t.frm = s.frm

/-! ## Bus engine -/

/-- With an answer given in advance: a call that returns makes the command Ok and adds OPEN (CLOSE) to the history; one that fails makes it Fault(DriverFault) and adds X(open) (X(close)); one that never returns leaves the command without a result and blocks the block, with no letter (the last is the model's form of R244, log 4). Nothing else changes. -/
def Obligations.OpenAndCloseCallTheDriver : Prop :=
  ∀ (s : State) (rest : List DrvAnswer) (ack : Bool) (x : Byte),
    (s.bus.script = .returns ack x :: rest →
      exec .busOpen s =
        .next ((s.withBus { s.bus with script := rest, trace := s.bus.trace ++ [.opened] }).withResult (some .ok)) ∧
      exec .busClose s =
        .next ((s.withBus { s.bus with script := rest, trace := s.bus.trace ++ [.closed] }).withResult (some .ok))) ∧
    (s.bus.script = .fails :: rest →
      exec .busOpen s = .next ((s.withBus { s.bus with script := rest, trace := s.bus.trace ++ [.x .openPort] }).withResult
        (some (.fault (.bus (.driverFault .openPort))))) ∧
      exec .busClose s = .next ((s.withBus { s.bus with script := rest, trace := s.bus.trace ++ [.x .closePort] }).withResult
        (some (.fault (.bus (.driverFault .closePort)))))) ∧
    (s.bus.script = .never :: rest →
      exec .busOpen s = .next ((s.withBus { s.bus with script := rest, blocked := some .openPort }).withResult none) ∧
      exec .busClose s = .next ((s.withBus { s.bus with script := rest, blocked := some .closePort }).withResult none))

/-- BUS.SUBMIT of a valid, not yet consumed transaction with no segments completes with Ok; bus_trace and everything else on the bus side is unchanged, and only txn_consumed and the result change. -/
def Obligations.EmptySubmitCallsNothing : Prop :=
  ∀ s : State, s.txn.valid = true → s.txn.consumed = false → s.txn.segs = [] →
    exec .busSubmit s = .next ((s.withTxn { s.txn with consumed := true }).withResult (some .ok))

/-- For any valid, not yet consumed, non-empty transaction, when the environment acknowledges every call and answers the byte reads with given bytes: BUS.SUBMIT completes with Ok; the history gains, for each segment, its condition (start for the first, repeated start for the others), its address byte with its direction, and its data bytes, read bytes with continue set on all but the last, and then one stop; each Read segment holds the bytes answered to it, each Write segment its own; the engine is idle, the slot consumed, and no unit outside the transaction slot and the bus side has changed. -/
def Obligations.AcknowledgedSubmitRunsEverySegment : Prop :=
  ∀ (s : State) (xs : List Byte) (tail : List DrvAnswer), s.txn.valid = true → s.txn.consumed = false → s.txn.segs ≠ [] →
    xs.length = callBound s.txn.segs → s.bus.script = ackScript xs ++ tail →
    ∃ b : Bus,
      exec .busSubmit s =
        .next (((s.withTxn { s.txn with segs := segmentsAfter s.txn.segs xs, consumed := true }).withBus b).withResult (some .ok)) ∧
      b.trace = s.bus.trace ++ segmentsTrace 0 s.txn.segs xs ++ [.p] ∧
      b.script = tail ∧ b.phase = .idle ∧ b.err = none ∧ b.draws = s.bus.draws ∧ b.blocked = s.bus.blocked

/-- The first failure in the calls of a submit, as the fault it stands for (R231, R232, R234, R236): the address last put out, how many
repeated starts came before (the segment's index), how many data bytes of the segment were acknowledged (the byte's index). -/
def Sys2Proof.Claim.firstFailure (addr : Addr) (k j : Nat) : List BusEvent → Option BusFault
  | [] => none
  | .sr :: es => firstFailure addr (k + 1) j es
  | .a adr _ true :: es => firstFailure adr k 0 es
  | .a adr _ false :: _ => some (.nackAddress adr)
  | .w _ true :: es => firstFailure addr k (j + 1) es
  | .w _ false :: _ => some (.nackDataWrite addr k j)
  | .x call :: _ => some (.driverFault call)
  | _ :: es => firstFailure addr k j es

/-- The bytes that the calls of a submit received for segment `k`, the calls beginning in segment `cur`. -/
def Sys2Proof.Claim.receivedIn (k cur : Nat) : List BusEvent → List Byte
  | [] => []
  | .sr :: es => receivedIn k (cur + 1) es
  | .r _ x :: es => if cur = k then x :: receivedIn k cur es else receivedIn k cur es
  | _ :: es => receivedIn k cur es

/-- For every list of segments that is not empty, every bus side with no call outstanding and every environment: the history only grows; if the submit ends, the calls it made are one start, then others among which is no start and no stop, then one stop; no call but the stop comes after a NACK or a driver fault; the outcome is Ok exactly when no call was a NACK or failed, and else the first failure among the calls: an address NACK with the address put out, a data NACK with the address, the segment and the byte index, a driver fault with the call. A data NACK names a Write segment of the list and the byte last put out, an address NACK the address of a segment. If a call does not return, no stop has returned and the history gained at most one start (that the call not returning leaves no letter is the model's form of R244, log 4). -/
def Obligations.StopIsCalledOnceAndLast : Prop :=
  ∀ (segs : List Segment) (b b' : Bus) (o : EngineOut) (segs' : List Segment), segs ≠ [] → b.blocked = none →
    engineSubmit segs b = (o, segs', b') →
    (b'.blocked = none → ∃ (first : BusEvent) (mid : List BusEvent) (last : BusEvent),
      b'.trace = b.trace ++ first :: (mid ++ [last]) ∧ isStartCall first = true ∧ isStopCall last = true ∧
      (∀ e ∈ mid, isStartCall e = false ∧ isStopCall e = false) ∧
      (∀ e ∈ (first :: mid).dropLast, isFailure e = false) ∧
      (o = .ok ↔ ∀ e ∈ first :: (mid ++ [last]), isFailure e = false) ∧
      (∀ f : BusFault, o = .fault f ↔ firstFailure 0 0 0 (first :: (mid ++ [last])) = some f) ∧
      (∀ (a : Addr) (k j : Nat), o = .fault (.nackDataWrite a k j) → ∃ (g : Segment) (x : Byte),
        segs[k]? = some g ∧ g.dir = .write ∧ g.addr = a ∧ g.data[j]? = some x ∧ mid.getLast? = some (.w x false)) ∧
      (∀ a : Addr, o = .fault (.nackAddress a) → ∃ g ∈ segs, g.addr = a ∧
        mid.getLast? = some (.a a (decide (g.dir = .read)) false)) ∧
      o ≠ .blocked ∧ b'.phase = .idle ∧ b'.err = none) ∧
    (b'.blocked ≠ none → o = .blocked ∧ ∃ gained : List BusEvent, b'.trace = b.trace ++ gained ∧
      callCount isStopCall gained = 0 ∧ callCount isStartCall gained ≤ 1)

/-- For every list of segments and every bus side and environment, running the state table of R238 one primitive call at a time for as many rows as the longest submit can take ends with the segments, the bus side (history, error, engine position) and the outcome that the algorithm of R228 gives. What eng_seg and eng_byte hold after the submit, or while a call has not returned, is the model's choice where the spec gives them no meaning (log 11): there the two are only said to agree. -/
def Obligations.EngineTableRefinesSubmit : Prop :=
  ∀ (segs : List Segment) (b : Bus),
    fsmRun (callBound segs) (fsmBegin segs b) =
      ⟨(engineSubmit segs b).2.1, (engineSubmit segs b).2.2, some (engineSubmit segs b).1⟩

/-- For every list of segments, bus side and environment, after a submit, ended or halted by a call that does not return (which is no letter of the history: log 4), there are as many segments in the same order, each with its direction, its address and the length of its data; a Write segment is as it was; the data of a Read segment are the bytes its byte reads answered, in order, and behind them what it held before. So where it held zeros (as TXN.READ makes it) every byte not received is still zero, whether the segment was never reached, its address NACKed, or a driver fault came at that byte. -/
def Obligations.EngineKeepsTheSegmentList : Prop :=
  ∀ (segs segs' : List Segment) (b b' : Bus) (o : EngineOut), engineSubmit segs b = (o, segs', b') →
    segs'.length = segs.length ∧ ∃ gained : List BusEvent, b'.trace = b.trace ++ gained ∧
    ∀ (k : Nat) (g g' : Segment), segs[k]? = some g → segs'[k]? = some g' →
      g'.dir = g.dir ∧ g'.addr = g.addr ∧ g'.data.length = g.data.length ∧ (g.dir = .write → g' = g) ∧
      (g.dir = .read → g'.data = receivedIn k 0 gained ++ g.data.drop (receivedIn k 0 gained).length ∧
        (g.data = List.replicate g.data.length 0 →
          ∀ j : Nat, (receivedIn k 0 gained).length ≤ j → j < g.data.length → g'.data[j]? = some 0))

/-- For any valid, not yet consumed transaction whose first segment's address byte is not acknowledged (start and stop returning): BUS.SUBMIT completes with Fault(NackAddress) carrying that address, the history gains exactly the start, the address byte and one stop, and every segment is as it was. In particular for the transaction of R245, whose Read segment still holds 00. -/
def Obligations.FirstAddressNackAbortsWithAStop : Prop :=
  (∀ (s : State) (g : Segment) (gs : List Segment) (a1 a3 : Bool) (x1 x2 x3 : Byte) (tail : List DrvAnswer),
    s.txn = ⟨true, g :: gs, false⟩ → s.bus.script = .returns a1 x1 :: .returns false x2 :: .returns a3 x3 :: tail →
    ∃ b : Bus,
      exec .busSubmit s =
        .next (((s.withTxn ⟨true, g :: gs, true⟩).withBus b).withResult (some (.fault (.bus (.nackAddress g.addr))))) ∧
      b.trace = s.bus.trace ++ [.s, .a g.addr (decide (g.dir = .read)) false, .p] ∧ b.phase = .idle ∧ b.err = none) ∧
  (∀ (s : State) (a1 a3 : Bool) (x1 x2 x3 : Byte) (tail : List DrvAnswer),
    s.txn = ⟨true, [⟨.write, 0x03, [0x40, 0x41]⟩, ⟨.write, 0x04, [0x01, 0x02, 0x03]⟩, ⟨.read, 0x04, [0x00]⟩], false⟩ →
    s.bus.script = .returns a1 x1 :: .returns false x2 :: .returns a3 x3 :: tail → s.bus.trace = [] →
    ∃ t : State, exec .busSubmit s = .next t ∧ t.bus.trace = [.s, .a 0x03 false false, .p] ∧
      t.result = some (.fault (.bus (.nackAddress 0x03))) ∧ t.txn.segs[2]? = some ⟨.read, 0x04, [0x00]⟩)

/-- For the transaction of R245 against a driver that acknowledges everything and returns x to the one read: the history gains exactly the thirteen calls listed, the result is Ok, and the Read segment holds x. -/
def Obligations.ThreeSegmentExample : Prop :=
  ∀ (s : State) (x : Byte) (tail : List DrvAnswer),
    s.txn = ⟨true, [⟨.write, 0x03, [0x40, 0x41]⟩, ⟨.write, 0x04, [0x01, 0x02, 0x03]⟩, ⟨.read, 0x04, [0x00]⟩], false⟩ →
    s.bus.script = ackScript [0, 0, 0, 0, 0, 0, 0, 0, 0, 0, 0, x, 0] ++ tail →
    ∃ t : State, exec .busSubmit s = .next t ∧ t.result = some .ok ∧
      t.bus.trace = s.bus.trace ++ [.s, .a 0x03 false true, .w 0x40 true, .w 0x41 true, .sr, .a 0x04 false true, .w 0x01 true,
        .w 0x02 true, .w 0x03 true, .sr, .a 0x04 true true, .r false x, .p] ∧
      t.txn.segs[2]? = some ⟨.read, 0x04, [x]⟩

/-- For a valid transaction not yet consumed, BUS.SUBMIT leads to a state in which the slot is valid and consumed and holds the segments as the engine run over them left them; the bus side is that run's, the result is Ok, the run's fault, or none while a call has not returned (the model's form of R244, log 4), and nothing else changes. From any state with a consumed transaction, BUS.SUBMIT is refused with TxnConsumed, and nothing but the result changes. -/
def Obligations.ASubmitConsumesItsTransaction : Prop :=
  (∀ (s : State) (o : EngineOut) (gs : List Segment) (b : Bus), s.txn.valid = true → s.txn.consumed = false →
    engineSubmit s.txn.segs s.bus = (o, gs, b) →
    exec .busSubmit s = .next (((s.withTxn ⟨true, gs, true⟩).withBus b).withResult (match o with
      | .ok => some .ok
      | .fault f => some (.fault (.bus f))
      | .blocked => none))) ∧
  (∀ s : State, s.txn.valid = true → s.txn.consumed = true → onlyResult .busSubmit s (.refused .txnConsumed))

/-! ## Transport adapter -/

/-- TP.CONFIG with an address of at most 127 completes with Ok: tp_addr is that address, tp_addr_valid is 1, tp_ceiling is the operand, and nothing else changes. -/
def Obligations.TransportConfigSetsBothRegisters : Prop :=
  ∀ (s : State) (addr : Byte) (a : Addr) (ceiling : Word32), addr.toNat = a.toNat →
    exec (.tpConfig addr ceiling) s = .next ((s.withTp ⟨true, a, ceiling⟩).withResult (some .ok))

/-- With a configured address, a valid frame whose memo is not stale and an environment that acknowledges every call, TP.SEND completes with Ok: the history gains a start, the address byte with the write direction, every byte of the serialized frame in order, and one stop; the frame slot has both memos set, and nothing else changes outside the bus side. -/
def Obligations.SendWritesTheFrameInOneSegment : Prop :=
  ∀ (s : State) (xs : List Byte) (tail : List DrvAnswer), s.tp.addrValid = true → s.frm.valid = true →
    frameOk s.cfg s.frm → xs.length = s.frm.payload.length + 11 → s.bus.script = ackScript xs ++ tail →
    let bytes := serFrame s.cfg s.frm.cls s.frm.id s.frm.payload
    let ck := cksOver s.cfg (frameBody s.frm.cls s.frm.id s.frm.payload)
    ∃ b : Bus,
      exec .tpSend s =
        .next (((s.withFrm { s.frm with ser := some bytes, ck := some ck }).withBus b).withResult (some .ok)) ∧
      b.trace = s.bus.trace ++ [.s, .a s.tp.addr false true] ++ bytes.map (fun x => .w x true) ++ [.p] ∧
      b.script = tail ∧ b.phase = .idle ∧ b.err = none

/-- The letters of one acknowledged poll transaction at an address: a selector written, then bytes read (R255, R257). -/
def Sys2Proof.Claim.pollTrace (addr : Addr) (selector : Byte) (xs : List Byte) : List BusEvent :=
  [.s, .a addr false true, .w selector true, .sr, .a addr true true] ++
  (List.range xs.length).map (fun j => .r (decide (j + 1 < xs.length)) (byteAt xs j)) ++ [.p]

/-- An environment that acknowledges one poll transaction and answers its byte reads with `xs` (`y` stands for bytes not read). -/
def Sys2Proof.Claim.pollScript (y : Byte) (xs : List Byte) : List DrvAnswer := ackScript ([y, y, y, y, y] ++ xs ++ [y])

/-- With a configured address and an environment that acknowledges the first transaction and answers the count lo + 256*hi: if the count is zero or exceeds the ceiling, TP.POLL answers Absent, the history gains exactly that transaction (write 0xFC, read two bytes), no second one, and the frame slot's valid bit is 0 (that its other fields, unreadable then, keep what they held is the model's choice, log 10); nothing else changes outside the bus side. -/
def Obligations.PollWithoutDataIsAbsent : Prop :=
  ∀ (s : State) (y lo hi : Byte) (tail : List DrvAnswer), s.tp.addrValid = true →
    s.bus.script = pollScript y [lo, hi] ++ tail →
    (lo.toNat + 256 * hi.toNat = 0 ∨ s.tp.ceiling.toNat < lo.toNat + 256 * hi.toNat) →
    ∃ b : Bus, exec .tpPoll s = .next (((s.withFrm { s.frm with valid := false }).withBus b).withResult (some .absent)) ∧
      b.trace = s.bus.trace ++ pollTrace s.tp.addr 0xFC [lo, hi] ∧ b.script = tail ∧ b.phase = .idle ∧ b.err = none

/-- With a configured address and an environment that acknowledges both transactions, answers the count lo + 256*hi with 0 < count <= ceiling and then count bytes: TP.POLL makes exactly the two transactions of R255 and R257; if the bytes are the serialized form of a frame, the slot holds that frame with its bytes and checksum and the result is the frame slot; if not (a first byte 0xFF included), the result is Absent and the slot's valid bit is 0 (that its other fields, unreadable then, keep what they held is the model's choice, log 10). Nothing else changes outside the bus side. -/
def Obligations.PollHandsTheDataToTheCodec : Prop :=
  ∀ (s : State) (y lo hi : Byte) (raw : List Byte) (tail : List DrvAnswer), s.tp.addrValid = true →
    s.bus.script = pollScript y [lo, hi] ++ pollScript y raw ++ tail →
    raw.length = lo.toNat + 256 * hi.toNat → 0 < raw.length → raw.length ≤ s.tp.ceiling.toNat →
    ∃ b : Bus, b.trace = s.bus.trace ++ pollTrace s.tp.addr 0xFC [lo, hi] ++ pollTrace s.tp.addr 0xFF raw ∧
      b.script = tail ∧ b.phase = .idle ∧ b.err = none ∧
      (∀ (c i : Byte) (p : List Byte), p.length ≤ 65535 → raw = serFrame s.cfg c i p →
        exec .tpPoll s = .next (((s.withFrm ⟨true, c, i, p, some raw,
          some (cksOver s.cfg (frameBody c i p))⟩).withBus b).withResult (some (.value .frameSlot)))) ∧
      ((∀ (c i : Byte) (p : List Byte), p.length ≤ 65535 → raw ≠ serFrame s.cfg c i p) →
        exec .tpPoll s = .next (((s.withFrm { s.frm with valid := false }).withBus b).withResult (some .absent)))

/-- When the transaction of TP.SEND, or the first or the second of TP.POLL, ends with an engine fault, the command ends with TransportUnreachable for an address NACK, TransportDriver for a driver fault and TransportGeneric for a data NACK, each carrying the original fault; no fault of another kind comes out of either command, and the stop call is the last call of the history. The codes of the three are 6, 7 and 8. -/
def Obligations.TransportTranslatesEngineFaults : Prop :=
  (∀ f : BusFault, faultCode (.transportUnreachable f) = 6 ∧ faultCode (.transportDriver f) = 7 ∧
    faultCode (.transportGeneric f) = 8) ∧
  (∀ (s : State) (f : BusFault) (gs : List Segment) (b : Bus), s.tp.addrValid = true → s.frm.valid = true →
    engineSubmit [⟨.write, s.tp.addr, (memoize s.cfg s.frm).ser.getD []⟩] s.bus = (.fault f, gs, b) →
    exec .tpSend s = .next (((s.withFrm (memoize s.cfg s.frm)).withBus b).withResult (some (.fault (match f with
      | .nackAddress a => .transportUnreachable (.nackAddress a)
      | .driverFault c => .transportDriver (.driverFault c)
      | .nackDataWrite a k j => .transportGeneric (.nackDataWrite a k j)))))) ∧
  (∀ (s : State) (f : BusFault) (gs : List Segment) (b : Bus), s.tp.addrValid = true →
    engineSubmit [⟨.write, s.tp.addr, [0xFC]⟩, ⟨.read, s.tp.addr, [0, 0]⟩] s.bus = (.fault f, gs, b) →
    exec .tpPoll s = .next ((s.withBus b).withResult (some (.fault (match f with
      | .nackAddress a => .transportUnreachable (.nackAddress a)
      | .driverFault c => .transportDriver (.driverFault c)
      | .nackDataWrite a k j => .transportGeneric (.nackDataWrite a k j)))))) ∧
  (∀ (s : State) (f : BusFault) (g : Segment) (lo hi : Byte) (gs : List Segment) (b b' : Bus), s.tp.addrValid = true →
    engineSubmit [⟨.write, s.tp.addr, [0xFC]⟩, ⟨.read, s.tp.addr, [0, 0]⟩] s.bus = (.ok, [g, ⟨.read, s.tp.addr, [lo, hi]⟩], b) →
    0 < lo.toNat + 256 * hi.toNat → lo.toNat + 256 * hi.toNat ≤ s.tp.ceiling.toNat →
    engineSubmit [⟨.write, s.tp.addr, [0xFF]⟩, ⟨.read, s.tp.addr, List.replicate (lo.toNat + 256 * hi.toNat) 0⟩] b =
      (.fault f, gs, b') →
    exec .tpPoll s = .next ((s.withBus b').withResult (some (.fault (match f with
      | .nackAddress a => .transportUnreachable (.nackAddress a)
      | .driverFault c => .transportDriver (.driverFault c)
      | .nackDataWrite a k j => .transportGeneric (.nackDataWrite a k j)))))) ∧
  (∀ (s t : State) (i : Instr) (f : CmdFault), i = .tpSend ∨ i = .tpPoll → s.bus.blocked = none → exec i s = .next t →
    t.result = some (.fault f) →
    (∃ pre last, t.bus.trace = pre ++ [last] ∧ isStopCall last = true) ∧
    ((∃ a, f = .transportUnreachable (.nackAddress a)) ∨ (∃ c, f = .transportDriver (.driverFault c)) ∨
      (∃ a k j, f = .transportGeneric (.nackDataWrite a k j))))

/-- For every state and environment, TP.SEND and TP.POLL lead to a state with the build's parameters, the accumulator, the reader, the writer, the builder, the transaction slot, the transport registers and the hand-overs as they were; TP.SEND changes nothing of the frame slot but its memo fields. -/
def Obligations.TransportLeavesTheOtherUnitsAlone : Prop :=
  ∀ s : State,
    (∃ t : State, exec .tpSend s = .next t ∧ t.build = s.build ∧ t.cks = s.cks ∧ t.pr = s.pr ∧ t.pw = s.pw ∧ t.tb = s.tb ∧
      t.txn = s.txn ∧ t.tp = s.tp ∧ t.cmdIn = s.cmdIn ∧ t.frm = { s.frm with ser := t.frm.ser, ck := t.frm.ck }) ∧
    (∃ t : State, exec .tpPoll s = .next t ∧ t.build = s.build ∧ t.cks = s.cks ∧ t.pr = s.pr ∧ t.pw = s.pw ∧ t.tb = s.tb ∧
      t.txn = s.txn ∧ t.tp = s.tp ∧ t.cmdIn = s.cmdIn)

/-! ## Refusals, faults and absences -/

/-- While its valid bit is 0, every PR.PEEK and PR.READ, every PW.POKE and PW.WRITE, FRM.SERIALIZE and FRM.CHECKSUM (and TP.SEND once an address is configured), every builder command but TXN.NEW, and BUS.SUBMIT are refused with NoObject, whatever their operands, and change nothing but the result; TP.SEND and TP.POLL with no configured address are refused with NotConfigured; TXN.WRITED and TXN.READD with no default address with NoDefaultAddress. -/
def Obligations.UseBeforeConstructionIsRefused : Prop :=
  ∀ (s : State) (off n : Word32) (addr : Byte) (data : List Byte) (v8 : BitVec 8) (v16 : BitVec 16) (v32 : BitVec 32) (v64 : BitVec 64),
    (s.pr.valid = false →
      onlyResult (.prPeekU8 off) s (.refused .noObject) ∧
      onlyResult (.prPeekS8 off) s (.refused .noObject) ∧
      onlyResult (.prPeekU16LE off) s (.refused .noObject) ∧
      onlyResult (.prPeekS16LE off) s (.refused .noObject) ∧
      onlyResult (.prPeekU16BE off) s (.refused .noObject) ∧
      onlyResult (.prPeekS16BE off) s (.refused .noObject) ∧
      onlyResult (.prPeekU32LE off) s (.refused .noObject) ∧
      onlyResult (.prPeekS32LE off) s (.refused .noObject) ∧
      onlyResult (.prPeekU32BE off) s (.refused .noObject) ∧
      onlyResult (.prPeekS32BE off) s (.refused .noObject) ∧
      onlyResult (.prPeekF32 off) s (.refused .noObject) ∧
      onlyResult (.prPeekF64 off) s (.refused .noObject) ∧
      onlyResult (.prPeekChar off) s (.refused .noObject) ∧
      onlyResult (.prPeekBytes off n) s (.refused .noObject) ∧
      onlyResult .prReadU8 s (.refused .noObject) ∧
      onlyResult .prReadS8 s (.refused .noObject) ∧
      onlyResult .prReadU16LE s (.refused .noObject) ∧
      onlyResult .prReadS16LE s (.refused .noObject) ∧
      onlyResult .prReadU16BE s (.refused .noObject) ∧
      onlyResult .prReadS16BE s (.refused .noObject) ∧
      onlyResult .prReadU32LE s (.refused .noObject) ∧
      onlyResult .prReadS32LE s (.refused .noObject) ∧
      onlyResult .prReadU32BE s (.refused .noObject) ∧
      onlyResult .prReadS32BE s (.refused .noObject) ∧
      onlyResult .prReadF32 s (.refused .noObject) ∧
      onlyResult .prReadF64 s (.refused .noObject) ∧
      onlyResult .prReadChar s (.refused .noObject) ∧
      onlyResult (.prReadBytes n) s (.refused .noObject)) ∧
    (s.pw.valid = false →
      onlyResult (.pwPokeU8 off v8) s (.refused .noObject) ∧
      onlyResult (.pwPokeS8 off v8) s (.refused .noObject) ∧
      onlyResult (.pwPokeU16LE off v16) s (.refused .noObject) ∧
      onlyResult (.pwPokeS16LE off v16) s (.refused .noObject) ∧
      onlyResult (.pwPokeU16BE off v16) s (.refused .noObject) ∧
      onlyResult (.pwPokeS16BE off v16) s (.refused .noObject) ∧
      onlyResult (.pwPokeU32LE off v32) s (.refused .noObject) ∧
      onlyResult (.pwPokeS32LE off v32) s (.refused .noObject) ∧
      onlyResult (.pwPokeU32BE off v32) s (.refused .noObject) ∧
      onlyResult (.pwPokeS32BE off v32) s (.refused .noObject) ∧
      onlyResult (.pwPokeF32 off v32) s (.refused .noObject) ∧
      onlyResult (.pwPokeF64 off v64) s (.refused .noObject) ∧
      onlyResult (.pwPokeChar off v8) s (.refused .noObject) ∧
      onlyResult (.pwPokeBytes off data) s (.refused .noObject) ∧
      onlyResult (.pwWriteU8 v8) s (.refused .noObject) ∧
      onlyResult (.pwWriteS8 v8) s (.refused .noObject) ∧
      onlyResult (.pwWriteU16LE v16) s (.refused .noObject) ∧
      onlyResult (.pwWriteS16LE v16) s (.refused .noObject) ∧
      onlyResult (.pwWriteU16BE v16) s (.refused .noObject) ∧
      onlyResult (.pwWriteS16BE v16) s (.refused .noObject) ∧
      onlyResult (.pwWriteU32LE v32) s (.refused .noObject) ∧
      onlyResult (.pwWriteS32LE v32) s (.refused .noObject) ∧
      onlyResult (.pwWriteU32BE v32) s (.refused .noObject) ∧
      onlyResult (.pwWriteS32BE v32) s (.refused .noObject) ∧
      onlyResult (.pwWriteF32 v32) s (.refused .noObject) ∧
      onlyResult (.pwWriteF64 v64) s (.refused .noObject) ∧
      onlyResult (.pwWriteChar v8) s (.refused .noObject) ∧
      onlyResult (.pwWriteBytes data) s (.refused .noObject)) ∧
    (s.frm.valid = false →
      onlyResult .frmSerialize s (.refused .noObject) ∧ onlyResult .frmChecksum s (.refused .noObject) ∧
      (s.tp.addrValid = true → onlyResult .tpSend s (.refused .noObject))) ∧
    (s.tb.valid = false →
      onlyResult (.txnWith addr) s (.refused .noObject) ∧ onlyResult (.txnWrite addr data) s (.refused .noObject) ∧
      onlyResult (.txnRead addr n) s (.refused .noObject) ∧ onlyResult (.txnWrited data) s (.refused .noObject) ∧
      onlyResult (.txnReadd n) s (.refused .noObject) ∧ onlyResult .txnBuild s (.refused .noObject)) ∧
    (s.txn.valid = false → onlyResult .busSubmit s (.refused .noObject)) ∧
    (s.tp.addrValid = false → onlyResult .tpSend s (.refused .notConfigured) ∧ onlyResult .tpPoll s (.refused .notConfigured)) ∧
    (s.tb.valid = true → s.tb.dflt = none →
      onlyResult (.txnWrited data) s (.refused .noDefaultAddress) ∧ onlyResult (.txnReadd n) s (.refused .noDefaultAddress))

/-- For every command, state and environment: if exec leads to a state whose result is a refusal, that state is the one before with only the result changed. -/
def Obligations.RefusedCommandsChangeNothing : Prop :=
  ∀ (i : Instr) (s t : State) (r : RefuseReason), exec i s = .next t → t.result = some (.refused r) →
    t = s.withResult (some (.refused r))

/-! The table of 60_exceptions.md R284, column by column. -/

/-- The commands of R284 that can end with `BoundsError`. -/
def Sys2Proof.Claim.canBeOutOfBounds : Instr → Bool
  | .prPeekU8 _ | .prPeekS8 _ | .prPeekU16LE _ | .prPeekS16LE _ | .prPeekU16BE _ | .prPeekS16BE _ | .prPeekU32LE _
  | .prPeekS32LE _ | .prPeekU32BE _ | .prPeekS32BE _ | .prPeekF32 _ | .prPeekF64 _ | .prPeekChar _ | .prPeekBytes _ _
  | .prReadU8 | .prReadS8 | .prReadU16LE | .prReadS16LE | .prReadU16BE | .prReadS16BE | .prReadU32LE | .prReadS32LE
  | .prReadU32BE | .prReadS32BE | .prReadF32 | .prReadF64 | .prReadChar | .prReadBytes _ | .pwPokeU8 _ _
  | .pwPokeS8 _ _ | .pwPokeU16LE _ _ | .pwPokeS16LE _ _ | .pwPokeU16BE _ _ | .pwPokeS16BE _ _ | .pwPokeU32LE _ _
  | .pwPokeS32LE _ _ | .pwPokeU32BE _ _ | .pwPokeS32BE _ _ | .pwPokeF32 _ _ | .pwPokeF64 _ _ | .pwPokeChar _ _
  | .pwPokeBytes _ _ | .pwWriteU8 _ | .pwWriteS8 _ | .pwWriteU16LE _ | .pwWriteS16LE _ | .pwWriteU16BE _
  | .pwWriteS16BE _ | .pwWriteU32LE _ | .pwWriteS32LE _ | .pwWriteU32BE _ | .pwWriteS32BE _ | .pwWriteF32 _
  | .pwWriteF64 _ | .pwWriteChar _ | .pwWriteBytes _ => true
  | _ => false

/-- The commands that can be refused with `NoObject`. -/
def Sys2Proof.Claim.canLackAnObject : Instr → Bool
  | .prPeekU8 _ | .prPeekS8 _ | .prPeekU16LE _ | .prPeekS16LE _ | .prPeekU16BE _ | .prPeekS16BE _ | .prPeekU32LE _
  | .prPeekS32LE _ | .prPeekU32BE _ | .prPeekS32BE _ | .prPeekF32 _ | .prPeekF64 _ | .prPeekChar _ | .prPeekBytes _ _
  | .prReadU8 | .prReadS8 | .prReadU16LE | .prReadS16LE | .prReadU16BE | .prReadS16BE | .prReadU32LE | .prReadS32LE
  | .prReadU32BE | .prReadS32BE | .prReadF32 | .prReadF64 | .prReadChar | .prReadBytes _ | .pwPokeU8 _ _
  | .pwPokeS8 _ _ | .pwPokeU16LE _ _ | .pwPokeS16LE _ _ | .pwPokeU16BE _ _ | .pwPokeS16BE _ _ | .pwPokeU32LE _ _
  | .pwPokeS32LE _ _ | .pwPokeU32BE _ _ | .pwPokeS32BE _ _ | .pwPokeF32 _ _ | .pwPokeF64 _ _ | .pwPokeChar _ _
  | .pwPokeBytes _ _ | .pwWriteU8 _ | .pwWriteS8 _ | .pwWriteU16LE _ | .pwWriteS16LE _ | .pwWriteU16BE _
  | .pwWriteS16BE _ | .pwWriteU32LE _ | .pwWriteS32LE _ | .pwWriteU32BE _ | .pwWriteS32BE _ | .pwWriteF32 _
  | .pwWriteF64 _ | .pwWriteChar _ | .pwWriteBytes _ | .frmSerialize | .frmChecksum | .txnWith _ | .txnWrite _ _
  | .txnRead _ _ | .txnWrited _ | .txnReadd _ | .txnBuild | .busSubmit | .tpSend => true
  | _ => false

/-- The commands that can be refused with `OperandRange`. -/
def Sys2Proof.Claim.canHaveABadLength : Instr → Bool
  | .prPeekBytes _ _ | .prReadBytes _ | .prNew _ | .pwPokeBytes _ _ | .pwWriteBytes _ | .pwNew _ | .frmNew _ _ _
  | .frmDeserialize _ | .txnWrite _ _ | .txnRead _ _ | .txnWrited _ | .txnReadd _ => true
  | _ => false

/-- The commands that can be refused with `AddressRange`. -/
def Sys2Proof.Claim.canHaveABadAddress : Instr → Bool
  | .txnWith _ | .txnWrite _ _ | .txnRead _ _ | .tpConfig _ _ => true
  | _ => false

/-- The column `Fault`. -/
def Sys2Proof.Claim.canFault (i : Instr) : CmdFault → Prop
  | .boundsError _ _ => canBeOutOfBounds i = true
  | .frameTooLong n => ∃ c d p, i = .frmNew c d p ∧ n = p.length
  | .bus (.driverFault c) => i = .busSubmit ∨ (i = .busOpen ∧ c = .openPort) ∨ (i = .busClose ∧ c = .closePort)
  | .bus _ => i = .busSubmit
  | .transportUnreachable _ => i = .tpSend ∨ i = .tpPoll
  | .transportDriver _ => i = .tpSend ∨ i = .tpPoll
  | .transportGeneric _ => i = .tpSend ∨ i = .tpPoll

/-- The column `Refused`. `UnknownOpcode` and `TruncatedCommand` are found before there is a command. -/
def Sys2Proof.Claim.canRefuse (i : Instr) : RefuseReason → Prop
  | .unknownOpcode => False
  | .truncatedCommand => False
  | .noObject => canLackAnObject i = true
  | .operandRange => canHaveABadLength i = true
  | .addressRange => canHaveABadAddress i = true
  | .noDefaultAddress => (∃ data, i = .txnWrited data) ∨ ∃ n, i = .txnReadd n
  | .txnConsumed => i = .busSubmit
  | .notConfigured => i = .tpSend ∨ i = .tpPoll

/-- How a command can end: the table, and no result at all for the five commands that call the driver (log 4). -/
def Sys2Proof.Claim.canEnd (i : Instr) : Option Result → Prop
  | none => i = .busOpen ∨ i = .busClose ∨ i = .busSubmit ∨ i = .tpSend ∨ i = .tpPoll
  | some .ok => True
  | some (.value _) => True
  | some .absent => (∃ data, i = .frmDeserialize data) ∨ i = .tpPoll
  | some (.fault f) => canFault i f
  | some (.refused r) => canRefuse i r

/-- For every command, state and environment exec answers a next state, and its result is none that the table of R284 (written out column by column in canFault, canRefuse and canEnd) marks "-" for the command: BoundsError only from the packed accesses, FrameTooLong only from FRM.NEW and with its payload length, NACKs only from BUS.SUBMIT, DriverFault only from the bus commands, the transport faults only from TP.SEND and TP.POLL, Absent only from FRM.DESERIALIZE and TP.POLL, each refusal only from the commands listed for it, none from CKS commands, TXN.NEW, BUS.OPEN and BUS.CLOSE; and only a bus or transport command can end without a result (the form of R244 is the model's choice, log 4). -/
def Obligations.WhichCommandCanEndHow : Prop :=
  ∀ (i : Instr) (s : State), ∃ t : State, exec i s = .next t ∧ canEnd i t.result

/-! ## Invariants of the machine -/

/-- The invariant of the buffers and the frame slot: legal lengths, cursors inside their buffers, a memo that is not stale. -/
def Sys2Proof.Claim.slotsOk (s : State) : Prop :=
  readerOk s.pr ∧ writerOk s.pw ∧ segmentsOk s.tb.segs ∧ segmentsOk s.txn.segs ∧ frameOk s.cfg s.frm

/-- The invariant of the bus side: at rest between commands, every exchange stopped. -/
def Sys2Proof.Claim.busOk (s : State) : Prop := engineAtRest s.bus ∧ startsStopped s.bus

/-- At reset, in a block built with any parameters, the buffers have legal lengths with the cursors inside them, the frame slot holds no stale memo (these slots are empty by the model's choice of unspecified reset values, log 6), the engine is at rest and every exchange started has been stopped. -/
def Obligations.ResetMeetsTheInvariants : Prop :=
  (∀ b : Build, slotsOk (State.resetOf b) ∧ busOk (State.resetOf b)) ∧ slotsOk State.reset ∧ busOk State.reset

/-- From every state whose buffers and segments have fewer than 2^31 bytes, whose cursors lie in their buffers and whose frame slot has a legal payload with memo fields equal to what a recomputation gives, every step that answers a next state leads to such a state, of a block with the same parameters, whatever the environment answers. -/
def Obligations.EveryStepKeepsBuffersAndMemo : Prop :=
  ∀ s t : State, slotsOk s → step s = .next t → slotsOk t ∧ t.build = s.build

/-- From every state with the engine at rest and as many stop calls as start calls in the history, every step that answers a next state leads to such a state, or to one in which a primitive has not returned and at most one exchange is open. -/
def Obligations.EveryStepStopsWhatItStarts : Prop :=
  ∀ s t : State, busOk s → step s = .next t → busOk t

/-- For every command and state: if exec leads to a state whose result is BoundsError or FrameTooLong, that state is the one before with only the result changed. -/
def Obligations.FaultsOfThePackedAndFrameUnitsChangeNothing : Prop :=
  ∀ (i : Instr) (s t : State) (f : CmdFault), exec i s = .next t → t.result = some (.fault f) →
    (∃ off n, f = .boundsError off n) ∨ (∃ n, f = .frameTooLong n) → t = s.withResult (some (.fault f))

/-! ## Host side -/

/-- After register(type), unflatten of a frame with the type's class and id is the type's own decoder's verdict on the payload, whatever was registered under that key before; every other class and id is dispatched as before. The key is class * 256 + id. Beside R265 (R263): flatten of a message is the frame with its type's class and id and its serialized payload, so once its type is registered, unflatten of it is that type's decoder's verdict on the payload. -/
def Obligations.LastRegistrationWins : Prop :=
  ∀ (Msg : Type) (reg : Registry Msg) (t : MessageType Msg) (cap : MessageCapability Msg) (m : Msg) (c i : Byte) (p : List Byte),
    (registryKey c i).toNat = c.toNat * 256 + i.toNat ∧
    unflatten (register reg t) ⟨t.cls, t.id, p⟩ = t.decode p ∧
    ((c ≠ t.cls ∨ i ≠ t.id) → unflatten (register reg t) ⟨c, i, p⟩ = unflatten reg ⟨c, i, p⟩) ∧
    flatten cap m = ⟨(cap.typeOf m).cls, (cap.typeOf m).id, cap.serializePayload m⟩ ∧
    unflatten (register reg (cap.typeOf m)) (flatten cap m) = (cap.typeOf m).decode (cap.serializePayload m)

/-- TXN.SUBMIT is TXN.BUILD and then BUS.SUBMIT, unless the first is refused; TP.SENDNEW is FRM.NEW and then TP.SEND, unless the first faults. -/
def Obligations.PseudoInstructionsExpand : Prop :=
  (∀ s : State, s.tb.valid = false → execPseudo .txnSubmit s = .next (s.withResult (some (.refused .noObject)))) ∧
  (∀ s t u : State, s.tb.valid = true → exec .txnBuild s = .next t → exec .busSubmit t = .next u →
    execPseudo .txnSubmit s = .next u) ∧
  (∀ (s : State) (c i : Byte) (p : List Byte), 65535 < p.length → p.length < 2 ^ 31 →
    execPseudo (.tpSendNew c i p) s = .next (s.withResult (some (.fault (.frameTooLong p.length))))) ∧
  (∀ (s t u : State) (c i : Byte) (p : List Byte), p.length ≤ 65535 → exec (.frmNew c i p) s = .next t →
    exec .tpSend t = .next u → execPseudo (.tpSendNew c i p) s = .next u)
end

