-- ==== Sys2Proof/Laws/Bytes.lean ====
section
/-! SUPPORT. Laws of the byte helpers: conversion there and back, lengths, reading after writing. -/

namespace Sys2Proof.Machine

@[simp] theorem leBytes_length (w v : Nat) : (leBytes w v).length = w := by
  induction w generalizing v with
  | zero => rfl
  | succ w ih => simp [leBytes, ih]

@[simp] theorem beBytes_length (w v : Nat) : (beBytes w v).length = w := by simp [beBytes]

@[simp] theorem zeroBytes_length (n : Nat) : (zeroBytes n).length = n := by simp [zeroBytes]

theorem ofLe_lt (xs : List Byte) : ofLe xs < 256 ^ xs.length := by
  induction xs with
  | nil => simp [ofLe]
  | cons x xs ih => simp only [ofLe, List.length_cons, Nat.pow_succ]; have := x.isLt; omega

/-- Writing a number as bytes and reading it back keeps its low `w` bytes. -/
theorem ofLe_leBytes (w v : Nat) : ofLe (leBytes w v) = v % 256 ^ w := by
  induction w generalizing v with
  | zero => simp [leBytes, ofLe, Nat.mod_one]
  | succ w ih => simp [leBytes, ofLe, ih, Nat.pow_succ, Nat.mul_comm (256 ^ w), Nat.mod_mul]

/-- Reading bytes as a number and writing it back gives the bytes. -/
theorem leBytes_ofLe (xs : List Byte) : leBytes xs.length (ofLe xs) = xs := by
  induction xs with
  | nil => rfl
  | cons x xs ih =>
    have hx := x.isLt
    simp only [List.length_cons, leBytes, ofLe]
    rw [show (x.toNat + 256 * ofLe xs) / 256 = ofLe xs by omega, ih]
    congr 1
    apply BitVec.eq_of_toNat_eq
    simp; omega

theorem ofBe_beBytes (w v : Nat) : ofBe (beBytes w v) = v % 256 ^ w := by simp [ofBe, beBytes, ofLe_leBytes]

theorem beBytes_ofBe (xs : List Byte) : beBytes xs.length (ofBe xs) = xs := by
  have h := leBytes_ofLe xs.reverse
  simp only [List.length_reverse] at h
  simp [beBytes, ofBe, h]

theorem ofBe_lt (xs : List Byte) : ofBe xs < 256 ^ xs.length := by
  have h := ofLe_lt xs.reverse
  simpa [ofBe] using h

/-- A pattern laid out little-endian reads back as itself. -/
theorem ofLe_leBytes_toNat (bits w : Nat) (h : 256 ^ w = 2 ^ bits) (v : BitVec bits) : ofLe (leBytes w v.toNat) = v.toNat := by
  rw [ofLe_leBytes, h, Nat.mod_eq_of_lt v.isLt]

/-! ## Patterns written as their bytes -/

/-- A pattern of `bits` bits, sign-extended, is its two's complement. -/
theorem sext_toNat {bits : Nat} (v : BitVec bits) : sext bits v.toNat = v.toInt := by
  have h : bits = 0 ∨ 2 ^ bits = 2 * 2 ^ (bits - 1) := by
    rcases bits with _ | n
    · exact .inl rfl
    · exact .inr (by rw [Nat.pow_succ]; simp [Nat.mul_comm])
  rcases h with rfl | h
  · simp [sext, BitVec.toInt, Subsingleton.elim v 0]
  · have e : (2 : Int) ^ bits = (2 ^ bits : Nat) := by push_cast; rfl
    simp only [sext, BitVec.toInt, e]
    split <;> split <;> omega

theorem append_toNat {m n : Nat} (x : BitVec m) (y : BitVec n) : (x ++ y).toNat = x.toNat * 2 ^ n + y.toNat := by
  rw [BitVec.toNat_append, ← Nat.shiftLeft_add_eq_or_of_lt y.isLt, Nat.shiftLeft_eq]

theorem ofLe_two (x0 x1 : Byte) : ((x1 ++ x0 : BitVec 16)).toNat = ofLe [x0, x1] := by
  rw [show (x1 ++ x0 : BitVec 16).toNat = _ from append_toNat x1 x0]
  simp only [ofLe]; omega

theorem ofLe_four (x0 x1 x2 x3 : Byte) : ((x3 ++ x2 ++ x1 ++ x0 : BitVec 32)).toNat = ofLe [x0, x1, x2, x3] := by
  rw [show (x3 ++ x2 ++ x1 ++ x0 : BitVec 32).toNat = _ from append_toNat (x3 ++ x2 ++ x1) x0,
    show (x3 ++ x2 ++ x1).toNat = _ from append_toNat (x3 ++ x2) x1, append_toNat x3 x2]
  simp only [ofLe]; omega

theorem ofLe_eight (x0 x1 x2 x3 x4 x5 x6 x7 : Byte) :
    ((x7 ++ x6 ++ x5 ++ x4 ++ x3 ++ x2 ++ x1 ++ x0 : BitVec 64)).toNat = ofLe [x0, x1, x2, x3, x4, x5, x6, x7] := by
  rw [show (x7 ++ x6 ++ x5 ++ x4 ++ x3 ++ x2 ++ x1 ++ x0 : BitVec 64).toNat = _ from append_toNat _ x0,
    show (x7 ++ x6 ++ x5 ++ x4 ++ x3 ++ x2 ++ x1).toNat = _ from append_toNat _ x1,
    show (x7 ++ x6 ++ x5 ++ x4 ++ x3 ++ x2).toNat = _ from append_toNat _ x2,
    show (x7 ++ x6 ++ x5 ++ x4 ++ x3).toNat = _ from append_toNat _ x3,
    show (x7 ++ x6 ++ x5 ++ x4).toNat = _ from append_toNat _ x4,
    show (x7 ++ x6 ++ x5).toNat = _ from append_toNat _ x5, append_toNat x7 x6]
  simp only [ofLe]; omega
/-! ## Buffers -/

theorem memRead_length (buf : List Byte) (addr n : Nat) (h : addr + n ≤ buf.length) : (memRead buf addr n).length = n := by
  simp [memRead]; omega

theorem memWrite_length (buf : List Byte) (addr : Nat) (xs : List Byte) (h : addr + xs.length ≤ buf.length) :
    (memWrite buf addr xs).length = buf.length := by
  simp [memWrite]; omega

/-- Reading where one has just written gives what was written. -/
theorem memRead_memWrite (buf : List Byte) (addr : Nat) (xs : List Byte) (h : addr + xs.length ≤ buf.length) :
    memRead (memWrite buf addr xs) addr xs.length = xs := by
  have ha : (buf.take addr).length = addr := by simp; omega
  unfold memRead memWrite
  rw [List.append_assoc, List.drop_left' ha, List.take_left]

/-- A write leaves every byte outside it alone. -/
theorem memWrite_elsewhere (buf : List Byte) (addr : Nat) (xs : List Byte) (h : addr + xs.length ≤ buf.length) (a : Nat)
    (ha : a < addr ∨ addr + xs.length ≤ a) : (memWrite buf addr xs)[a]? = buf[a]? := by
  have hl : (buf.take addr).length = addr := by simp; omega
  unfold memWrite
  rcases ha with ha | ha
  · rw [List.append_assoc, List.getElem?_append_left (by omega)]; simp [ha]
  · rw [List.getElem?_append_right (by simp; omega)]
    simp only [List.getElem?_drop, List.length_append, hl]
    congr 1; omega

/-- A write puts its bytes where it says. -/
theorem memWrite_there (buf : List Byte) (addr : Nat) (xs : List Byte) (h : addr + xs.length ≤ buf.length) (j : Nat)
    (hj : j < xs.length) : (memWrite buf addr xs)[addr + j]? = xs[j]? := by
  have hl : (buf.take addr).length = addr := by simp; omega
  unfold memWrite
  rw [List.getElem?_append_left (by simp; omega), List.getElem?_append_right (by omega)]
  congr 1; omega

end Sys2Proof.Machine
end

