-- ==== Sys2Proof/Laws/Decode.lean ====
section
/-! SUPPORT. Reading an operand after writing it, one lemma per operand form and per format of 30_encoding.md R72. -/

namespace Sys2Proof

open Sys2Proof.Machine

theorem takeLe_append (w : Nat) (xs rest : List Byte) (h : xs.length = w) : takeLe w (xs ++ rest) = some (ofLe xs, rest) := by
  subst h; simp [takeLe]

/-- What a successful `takeLe` says about the bytes. -/
theorem takeLe_some {w : Nat} {bs rest : List Byte} {n : Nat} (h : takeLe w bs = some (n, rest)) :
    bs = leBytes w n ++ rest ∧ n < 256 ^ w := by
  unfold takeLe at h
  split at h
  · next hl =>
    simp only [Option.some.injEq, Prod.mk.injEq] at h
    obtain ⟨rfl, rfl⟩ := h
    have hlen : (bs.take w).length = w := by simp; omega
    refine ⟨?_, by simpa [hlen] using ofLe_lt (bs.take w)⟩
    have := leBytes_ofLe (bs.take w)
    rw [hlen] at this
    rw [this, List.take_append_drop]
  · cases h

theorem takeBits_putBits (bits : Nat) (h : 256 ^ (bits / 8) = 2 ^ bits) (v : BitVec bits) (rest : List Byte) :
    takeBits bits (putBits bits v ++ rest) = some (v, rest) := by
  simp [takeBits, putBits, takeLe_append, ofLe_leBytes_toNat _ _ h]

@[simp] theorem takeBits_putBits_8 (v : BitVec 8) (rest : List Byte) : takeBits 8 (putBits 8 v ++ rest) = some (v, rest) :=
  takeBits_putBits 8 (by norm_num) v rest
@[simp] theorem takeBits_putBits_16 (v : BitVec 16) (rest : List Byte) : takeBits 16 (putBits 16 v ++ rest) = some (v, rest) :=
  takeBits_putBits 16 (by norm_num) v rest
@[simp] theorem takeBits_putBits_32 (v : BitVec 32) (rest : List Byte) : takeBits 32 (putBits 32 v ++ rest) = some (v, rest) :=
  takeBits_putBits 32 (by norm_num) v rest
@[simp] theorem takeBits_putBits_64 (v : BitVec 64) (rest : List Byte) : takeBits 64 (putBits 64 v ++ rest) = some (v, rest) :=
  takeBits_putBits 64 (by norm_num) v rest

/-- What a successful `takeBits` says about the bytes. -/
theorem takeBits_some {bits : Nat} (hb : 256 ^ (bits / 8) = 2 ^ bits) {bs rest : List Byte} {v : BitVec bits}
    (h : takeBits bits bs = some (v, rest)) : bs = putBits bits v ++ rest := by
  unfold takeBits at h
  simp only [Option.map_eq_some_iff, Prod.mk.injEq, Prod.exists] at h
  obtain ⟨n, r, hn, hv, rfl⟩ := h
  obtain ⟨rfl, hlt⟩ := takeLe_some hn
  rw [hb] at hlt
  subst hv
  simp [putBits, BitVec.toNat_ofNat, Nat.mod_eq_of_lt hlt]

@[simp] theorem takeData_putData (data rest : List Byte) (h : dataFits data = true) :
    takeData (putData data ++ rest) = some (data, rest) := by
  have hl : data.length < 2 ^ 32 := by simpa [dataFits] using h
  have hm : data.length % 4294967296 = data.length := Nat.mod_eq_of_lt (by simpa using hl)
  simp [takeData, putData, List.append_assoc, takeLe_append, ofLe_leBytes, hm]

/-- What a successful `takeData` says about the bytes. -/
theorem takeData_some {bs data rest : List Byte} (h : takeData bs = some (data, rest)) :
    bs = putData data ++ rest ∧ dataFits data = true := by
  unfold takeData at h
  simp only [Option.bind_eq_some_iff, Prod.exists] at h
  obtain ⟨n, r, hn, h⟩ := h
  obtain ⟨rfl, hlt⟩ := takeLe_some hn
  split at h
  · next hle =>
    simp only [Option.some.injEq, Prod.mk.injEq] at h
    obtain ⟨rfl, rfl⟩ := h
    have : (r.take n).length = n := by simp; omega
    refine ⟨by simp [putData, this], ?_⟩
    simp only [dataFits, this, decide_eq_true_eq]
    omega
  · cases h

/-- A decoded command is no unknown opcode. -/
theorem command_known (i : Instr) (rest : List Byte) : DecodeResult.command i rest ≠ .unknownOpcode := nofun

/-- A format's operands, once read or not, never give an unknown opcode. -/
theorem ofParse_known (p : Parse) : ofParse p ≠ .unknownOpcode := by
  cases p <;> simp [ofParse]

end Sys2Proof
end

