-- ==== Sys2Proof/Laws/State.lean ====
section
/-! SUPPORT. One lemma per field per update of the state records, so that no proof unfolds a record update. -/

namespace Sys2Proof.Machine

/-! ## The parameters of a build (00_scope.md R7) -/

@[simp] theorem buildConfig_cksOrder (b : Build) : b.config.cksOrder = b.cksOrder := rfl
@[simp] theorem buildConfig_cksInitA (b : Build) : b.config.cksInitA = b.cksInitA := rfl
@[simp] theorem buildConfig_cksInitB (b : Build) : b.config.cksInitB = b.cksInitB := rfl
@[simp] theorem buildConfig_hasRstart (b : Build) : b.config.hasRstart = b.hasRstart := rfl
@[simp] theorem buildConfig_sync1 (b : Build) : b.config.sync1 = 0xB5 := rfl
@[simp] theorem buildConfig_sync2 (b : Build) : b.config.sync2 = 0x62 := rfl
@[simp] theorem buildConfig_payloadMax (b : Build) : b.config.payloadMax = 65535 := rfl
@[simp] theorem buildConfig_frameOverhead (b : Build) : b.config.frameOverhead = 8 := rfl
@[simp] theorem buildConfig_addrBits (b : Build) : b.config.addrBits = 7 := rfl
@[simp] theorem buildConfig_selCount (b : Build) : b.config.selCount = 0xFC := rfl
@[simp] theorem buildConfig_selData (b : Build) : b.config.selData = 0xFF := rfl
@[simp] theorem buildConfig_noData (b : Build) : b.config.noData = 0xFF := rfl
@[simp] theorem buildConfig_offBits (b : Build) : b.config.offBits = 32 := rfl
@[simp] theorem buildConfig_lenBits (b : Build) : b.config.lenBits = 32 := rfl
@[simp] theorem buildConfig_tpAddr (b : Build) : b.config.tpAddr = none := rfl
@[simp] theorem buildConfig_tpCeiling (b : Build) : b.config.tpCeiling = 4096 := rfl
@[simp] theorem State.cfg_cksOrder (s : State) : s.cfg.cksOrder = s.build.cksOrder := rfl
@[simp] theorem State.cfg_cksInitA (s : State) : s.cfg.cksInitA = s.build.cksInitA := rfl
@[simp] theorem State.cfg_cksInitB (s : State) : s.cfg.cksInitB = s.build.cksInitB := rfl
@[simp] theorem State.cfg_hasRstart (s : State) : s.cfg.hasRstart = s.build.hasRstart := rfl
@[simp] theorem State.cfg_sync1 (s : State) : s.cfg.sync1 = 0xB5 := rfl
@[simp] theorem State.cfg_sync2 (s : State) : s.cfg.sync2 = 0x62 := rfl
@[simp] theorem State.cfg_payloadMax (s : State) : s.cfg.payloadMax = 65535 := rfl
@[simp] theorem State.cfg_frameOverhead (s : State) : s.cfg.frameOverhead = 8 := rfl
@[simp] theorem State.cfg_addrBits (s : State) : s.cfg.addrBits = 7 := rfl
@[simp] theorem State.cfg_selCount (s : State) : s.cfg.selCount = 0xFC := rfl
@[simp] theorem State.cfg_selData (s : State) : s.cfg.selData = 0xFF := rfl
@[simp] theorem State.cfg_noData (s : State) : s.cfg.noData = 0xFF := rfl
@[simp] theorem State.cfg_offBits (s : State) : s.cfg.offBits = 32 := rfl
@[simp] theorem State.cfg_lenBits (s : State) : s.cfg.lenBits = 32 := rfl
@[simp] theorem State.resetOf_build (b : Build) : (State.resetOf b).build = b := rfl
@[simp] theorem State.resetOf_cfg (b : Build) : (State.resetOf b).cfg = b.config := rfl

/-! ## The fields of `State` under its updates -/

@[simp] theorem State.withCks_build (s : State) (v : Cks) : (s.withCks v).build = s.build := rfl
@[simp] theorem State.withCks_cfg (s : State) (v : Cks) : (s.withCks v).cfg = s.cfg := rfl
@[simp] theorem State.withCks_cks (s : State) (v : Cks) : (s.withCks v).cks = v := rfl
@[simp] theorem State.withCks_pr (s : State) (v : Cks) : (s.withCks v).pr = s.pr := rfl
@[simp] theorem State.withCks_pw (s : State) (v : Cks) : (s.withCks v).pw = s.pw := rfl
@[simp] theorem State.withCks_frm (s : State) (v : Cks) : (s.withCks v).frm = s.frm := rfl
@[simp] theorem State.withCks_tb (s : State) (v : Cks) : (s.withCks v).tb = s.tb := rfl
@[simp] theorem State.withCks_txn (s : State) (v : Cks) : (s.withCks v).txn = s.txn := rfl
@[simp] theorem State.withCks_bus (s : State) (v : Cks) : (s.withCks v).bus = s.bus := rfl
@[simp] theorem State.withCks_tp (s : State) (v : Cks) : (s.withCks v).tp = s.tp := rfl
@[simp] theorem State.withCks_cmdIn (s : State) (v : Cks) : (s.withCks v).cmdIn = s.cmdIn := rfl
@[simp] theorem State.withCks_result (s : State) (v : Cks) : (s.withCks v).result = s.result := rfl
@[simp] theorem State.withPr_build (s : State) (v : PackedReader) : (s.withPr v).build = s.build := rfl
@[simp] theorem State.withPr_cfg (s : State) (v : PackedReader) : (s.withPr v).cfg = s.cfg := rfl
@[simp] theorem State.withPr_cks (s : State) (v : PackedReader) : (s.withPr v).cks = s.cks := rfl
@[simp] theorem State.withPr_pr (s : State) (v : PackedReader) : (s.withPr v).pr = v := rfl
@[simp] theorem State.withPr_pw (s : State) (v : PackedReader) : (s.withPr v).pw = s.pw := rfl
@[simp] theorem State.withPr_frm (s : State) (v : PackedReader) : (s.withPr v).frm = s.frm := rfl
@[simp] theorem State.withPr_tb (s : State) (v : PackedReader) : (s.withPr v).tb = s.tb := rfl
@[simp] theorem State.withPr_txn (s : State) (v : PackedReader) : (s.withPr v).txn = s.txn := rfl
@[simp] theorem State.withPr_bus (s : State) (v : PackedReader) : (s.withPr v).bus = s.bus := rfl
@[simp] theorem State.withPr_tp (s : State) (v : PackedReader) : (s.withPr v).tp = s.tp := rfl
@[simp] theorem State.withPr_cmdIn (s : State) (v : PackedReader) : (s.withPr v).cmdIn = s.cmdIn := rfl
@[simp] theorem State.withPr_result (s : State) (v : PackedReader) : (s.withPr v).result = s.result := rfl
@[simp] theorem State.withPw_build (s : State) (v : PackedWriter) : (s.withPw v).build = s.build := rfl
@[simp] theorem State.withPw_cfg (s : State) (v : PackedWriter) : (s.withPw v).cfg = s.cfg := rfl
@[simp] theorem State.withPw_cks (s : State) (v : PackedWriter) : (s.withPw v).cks = s.cks := rfl
@[simp] theorem State.withPw_pr (s : State) (v : PackedWriter) : (s.withPw v).pr = s.pr := rfl
@[simp] theorem State.withPw_pw (s : State) (v : PackedWriter) : (s.withPw v).pw = v := rfl
@[simp] theorem State.withPw_frm (s : State) (v : PackedWriter) : (s.withPw v).frm = s.frm := rfl
@[simp] theorem State.withPw_tb (s : State) (v : PackedWriter) : (s.withPw v).tb = s.tb := rfl
@[simp] theorem State.withPw_txn (s : State) (v : PackedWriter) : (s.withPw v).txn = s.txn := rfl
@[simp] theorem State.withPw_bus (s : State) (v : PackedWriter) : (s.withPw v).bus = s.bus := rfl
@[simp] theorem State.withPw_tp (s : State) (v : PackedWriter) : (s.withPw v).tp = s.tp := rfl
@[simp] theorem State.withPw_cmdIn (s : State) (v : PackedWriter) : (s.withPw v).cmdIn = s.cmdIn := rfl
@[simp] theorem State.withPw_result (s : State) (v : PackedWriter) : (s.withPw v).result = s.result := rfl
@[simp] theorem State.withFrm_build (s : State) (v : FrameSlot) : (s.withFrm v).build = s.build := rfl
@[simp] theorem State.withFrm_cfg (s : State) (v : FrameSlot) : (s.withFrm v).cfg = s.cfg := rfl
@[simp] theorem State.withFrm_cks (s : State) (v : FrameSlot) : (s.withFrm v).cks = s.cks := rfl
@[simp] theorem State.withFrm_pr (s : State) (v : FrameSlot) : (s.withFrm v).pr = s.pr := rfl
@[simp] theorem State.withFrm_pw (s : State) (v : FrameSlot) : (s.withFrm v).pw = s.pw := rfl
@[simp] theorem State.withFrm_frm (s : State) (v : FrameSlot) : (s.withFrm v).frm = v := rfl
@[simp] theorem State.withFrm_tb (s : State) (v : FrameSlot) : (s.withFrm v).tb = s.tb := rfl
@[simp] theorem State.withFrm_txn (s : State) (v : FrameSlot) : (s.withFrm v).txn = s.txn := rfl
@[simp] theorem State.withFrm_bus (s : State) (v : FrameSlot) : (s.withFrm v).bus = s.bus := rfl
@[simp] theorem State.withFrm_tp (s : State) (v : FrameSlot) : (s.withFrm v).tp = s.tp := rfl
@[simp] theorem State.withFrm_cmdIn (s : State) (v : FrameSlot) : (s.withFrm v).cmdIn = s.cmdIn := rfl
@[simp] theorem State.withFrm_result (s : State) (v : FrameSlot) : (s.withFrm v).result = s.result := rfl
@[simp] theorem State.withTb_build (s : State) (v : Builder) : (s.withTb v).build = s.build := rfl
@[simp] theorem State.withTb_cfg (s : State) (v : Builder) : (s.withTb v).cfg = s.cfg := rfl
@[simp] theorem State.withTb_cks (s : State) (v : Builder) : (s.withTb v).cks = s.cks := rfl
@[simp] theorem State.withTb_pr (s : State) (v : Builder) : (s.withTb v).pr = s.pr := rfl
@[simp] theorem State.withTb_pw (s : State) (v : Builder) : (s.withTb v).pw = s.pw := rfl
@[simp] theorem State.withTb_frm (s : State) (v : Builder) : (s.withTb v).frm = s.frm := rfl
@[simp] theorem State.withTb_tb (s : State) (v : Builder) : (s.withTb v).tb = v := rfl
@[simp] theorem State.withTb_txn (s : State) (v : Builder) : (s.withTb v).txn = s.txn := rfl
@[simp] theorem State.withTb_bus (s : State) (v : Builder) : (s.withTb v).bus = s.bus := rfl
@[simp] theorem State.withTb_tp (s : State) (v : Builder) : (s.withTb v).tp = s.tp := rfl
@[simp] theorem State.withTb_cmdIn (s : State) (v : Builder) : (s.withTb v).cmdIn = s.cmdIn := rfl
@[simp] theorem State.withTb_result (s : State) (v : Builder) : (s.withTb v).result = s.result := rfl
@[simp] theorem State.withTxn_build (s : State) (v : TxnSlot) : (s.withTxn v).build = s.build := rfl
@[simp] theorem State.withTxn_cfg (s : State) (v : TxnSlot) : (s.withTxn v).cfg = s.cfg := rfl
@[simp] theorem State.withTxn_cks (s : State) (v : TxnSlot) : (s.withTxn v).cks = s.cks := rfl
@[simp] theorem State.withTxn_pr (s : State) (v : TxnSlot) : (s.withTxn v).pr = s.pr := rfl
@[simp] theorem State.withTxn_pw (s : State) (v : TxnSlot) : (s.withTxn v).pw = s.pw := rfl
@[simp] theorem State.withTxn_frm (s : State) (v : TxnSlot) : (s.withTxn v).frm = s.frm := rfl
@[simp] theorem State.withTxn_tb (s : State) (v : TxnSlot) : (s.withTxn v).tb = s.tb := rfl
@[simp] theorem State.withTxn_txn (s : State) (v : TxnSlot) : (s.withTxn v).txn = v := rfl
@[simp] theorem State.withTxn_bus (s : State) (v : TxnSlot) : (s.withTxn v).bus = s.bus := rfl
@[simp] theorem State.withTxn_tp (s : State) (v : TxnSlot) : (s.withTxn v).tp = s.tp := rfl
@[simp] theorem State.withTxn_cmdIn (s : State) (v : TxnSlot) : (s.withTxn v).cmdIn = s.cmdIn := rfl
@[simp] theorem State.withTxn_result (s : State) (v : TxnSlot) : (s.withTxn v).result = s.result := rfl
@[simp] theorem State.withBus_build (s : State) (v : Bus) : (s.withBus v).build = s.build := rfl
@[simp] theorem State.withBus_cfg (s : State) (v : Bus) : (s.withBus v).cfg = s.cfg := rfl
@[simp] theorem State.withBus_cks (s : State) (v : Bus) : (s.withBus v).cks = s.cks := rfl
@[simp] theorem State.withBus_pr (s : State) (v : Bus) : (s.withBus v).pr = s.pr := rfl
@[simp] theorem State.withBus_pw (s : State) (v : Bus) : (s.withBus v).pw = s.pw := rfl
@[simp] theorem State.withBus_frm (s : State) (v : Bus) : (s.withBus v).frm = s.frm := rfl
@[simp] theorem State.withBus_tb (s : State) (v : Bus) : (s.withBus v).tb = s.tb := rfl
@[simp] theorem State.withBus_txn (s : State) (v : Bus) : (s.withBus v).txn = s.txn := rfl
@[simp] theorem State.withBus_bus (s : State) (v : Bus) : (s.withBus v).bus = v := rfl
@[simp] theorem State.withBus_tp (s : State) (v : Bus) : (s.withBus v).tp = s.tp := rfl
@[simp] theorem State.withBus_cmdIn (s : State) (v : Bus) : (s.withBus v).cmdIn = s.cmdIn := rfl
@[simp] theorem State.withBus_result (s : State) (v : Bus) : (s.withBus v).result = s.result := rfl
@[simp] theorem State.withTp_build (s : State) (v : Transport) : (s.withTp v).build = s.build := rfl
@[simp] theorem State.withTp_cfg (s : State) (v : Transport) : (s.withTp v).cfg = s.cfg := rfl
@[simp] theorem State.withTp_cks (s : State) (v : Transport) : (s.withTp v).cks = s.cks := rfl
@[simp] theorem State.withTp_pr (s : State) (v : Transport) : (s.withTp v).pr = s.pr := rfl
@[simp] theorem State.withTp_pw (s : State) (v : Transport) : (s.withTp v).pw = s.pw := rfl
@[simp] theorem State.withTp_frm (s : State) (v : Transport) : (s.withTp v).frm = s.frm := rfl
@[simp] theorem State.withTp_tb (s : State) (v : Transport) : (s.withTp v).tb = s.tb := rfl
@[simp] theorem State.withTp_txn (s : State) (v : Transport) : (s.withTp v).txn = s.txn := rfl
@[simp] theorem State.withTp_bus (s : State) (v : Transport) : (s.withTp v).bus = s.bus := rfl
@[simp] theorem State.withTp_tp (s : State) (v : Transport) : (s.withTp v).tp = v := rfl
@[simp] theorem State.withTp_cmdIn (s : State) (v : Transport) : (s.withTp v).cmdIn = s.cmdIn := rfl
@[simp] theorem State.withTp_result (s : State) (v : Transport) : (s.withTp v).result = s.result := rfl
@[simp] theorem State.withCmdIn_build (s : State) (v : List (List Byte)) : (s.withCmdIn v).build = s.build := rfl
@[simp] theorem State.withCmdIn_cfg (s : State) (v : List (List Byte)) : (s.withCmdIn v).cfg = s.cfg := rfl
@[simp] theorem State.withCmdIn_cks (s : State) (v : List (List Byte)) : (s.withCmdIn v).cks = s.cks := rfl
@[simp] theorem State.withCmdIn_pr (s : State) (v : List (List Byte)) : (s.withCmdIn v).pr = s.pr := rfl
@[simp] theorem State.withCmdIn_pw (s : State) (v : List (List Byte)) : (s.withCmdIn v).pw = s.pw := rfl
@[simp] theorem State.withCmdIn_frm (s : State) (v : List (List Byte)) : (s.withCmdIn v).frm = s.frm := rfl
@[simp] theorem State.withCmdIn_tb (s : State) (v : List (List Byte)) : (s.withCmdIn v).tb = s.tb := rfl
@[simp] theorem State.withCmdIn_txn (s : State) (v : List (List Byte)) : (s.withCmdIn v).txn = s.txn := rfl
@[simp] theorem State.withCmdIn_bus (s : State) (v : List (List Byte)) : (s.withCmdIn v).bus = s.bus := rfl
@[simp] theorem State.withCmdIn_tp (s : State) (v : List (List Byte)) : (s.withCmdIn v).tp = s.tp := rfl
@[simp] theorem State.withCmdIn_cmdIn (s : State) (v : List (List Byte)) : (s.withCmdIn v).cmdIn = v := rfl
@[simp] theorem State.withCmdIn_result (s : State) (v : List (List Byte)) : (s.withCmdIn v).result = s.result := rfl
@[simp] theorem State.withResult_build (s : State) (v : Option Result) : (s.withResult v).build = s.build := rfl
@[simp] theorem State.withResult_cfg (s : State) (v : Option Result) : (s.withResult v).cfg = s.cfg := rfl
@[simp] theorem State.withResult_cks (s : State) (v : Option Result) : (s.withResult v).cks = s.cks := rfl
@[simp] theorem State.withResult_pr (s : State) (v : Option Result) : (s.withResult v).pr = s.pr := rfl
@[simp] theorem State.withResult_pw (s : State) (v : Option Result) : (s.withResult v).pw = s.pw := rfl
@[simp] theorem State.withResult_frm (s : State) (v : Option Result) : (s.withResult v).frm = s.frm := rfl
@[simp] theorem State.withResult_tb (s : State) (v : Option Result) : (s.withResult v).tb = s.tb := rfl
@[simp] theorem State.withResult_txn (s : State) (v : Option Result) : (s.withResult v).txn = s.txn := rfl
@[simp] theorem State.withResult_bus (s : State) (v : Option Result) : (s.withResult v).bus = s.bus := rfl
@[simp] theorem State.withResult_tp (s : State) (v : Option Result) : (s.withResult v).tp = s.tp := rfl
@[simp] theorem State.withResult_cmdIn (s : State) (v : Option Result) : (s.withResult v).cmdIn = s.cmdIn := rfl
@[simp] theorem State.withResult_result (s : State) (v : Option Result) : (s.withResult v).result = v := rfl

/-! ## Writing a field twice, or with what it holds -/

@[simp] theorem State.withCks_twice (s : State) (v w : Cks) : (s.withCks v).withCks w = s.withCks w := rfl
@[simp] theorem State.withCks_self (s : State) : s.withCks s.cks = s := rfl
@[simp] theorem State.withPr_twice (s : State) (v w : PackedReader) : (s.withPr v).withPr w = s.withPr w := rfl
@[simp] theorem State.withPr_self (s : State) : s.withPr s.pr = s := rfl
@[simp] theorem State.withPw_twice (s : State) (v w : PackedWriter) : (s.withPw v).withPw w = s.withPw w := rfl
@[simp] theorem State.withPw_self (s : State) : s.withPw s.pw = s := rfl
@[simp] theorem State.withFrm_twice (s : State) (v w : FrameSlot) : (s.withFrm v).withFrm w = s.withFrm w := rfl
@[simp] theorem State.withFrm_self (s : State) : s.withFrm s.frm = s := rfl
@[simp] theorem State.withTb_twice (s : State) (v w : Builder) : (s.withTb v).withTb w = s.withTb w := rfl
@[simp] theorem State.withTb_self (s : State) : s.withTb s.tb = s := rfl
@[simp] theorem State.withTxn_twice (s : State) (v w : TxnSlot) : (s.withTxn v).withTxn w = s.withTxn w := rfl
@[simp] theorem State.withTxn_self (s : State) : s.withTxn s.txn = s := rfl
@[simp] theorem State.withBus_twice (s : State) (v w : Bus) : (s.withBus v).withBus w = s.withBus w := rfl
@[simp] theorem State.withBus_self (s : State) : s.withBus s.bus = s := rfl
@[simp] theorem State.withTp_twice (s : State) (v w : Transport) : (s.withTp v).withTp w = s.withTp w := rfl
@[simp] theorem State.withTp_self (s : State) : s.withTp s.tp = s := rfl
@[simp] theorem State.withCmdIn_twice (s : State) (v w : List (List Byte)) : (s.withCmdIn v).withCmdIn w = s.withCmdIn w := rfl
@[simp] theorem State.withCmdIn_self (s : State) : s.withCmdIn s.cmdIn = s := rfl
@[simp] theorem State.withResult_twice (s : State) (v w : Option Result) : (s.withResult v).withResult w = s.withResult w := rfl
@[simp] theorem State.withResult_self (s : State) : s.withResult s.result = s := rfl

/-! ## How a command ends -/

@[simp] theorem State.ok_eq (s : State) : s.ok = s.withResult (some .ok) := rfl
@[simp] theorem State.okValue_eq (s : State) (v : Value) : s.okValue v = s.withResult (some (.value v)) := rfl
@[simp] theorem State.absent_eq (s : State) : s.absent = s.withResult (some .absent) := rfl
@[simp] theorem State.raise_eq (s : State) (f : CmdFault) : s.raise f = s.withResult (some (.fault f)) := rfl
@[simp] theorem State.refuse_eq (s : State) (r : RefuseReason) : s.refuse r = s.withResult (some (.refused r)) := rfl
@[simp] theorem State.hang_eq (s : State) : s.hang = s.withResult (none) := rfl

/-! ## The fields of `Bus` under its updates -/

@[simp] theorem Bus.at_phase (b : Bus) (p : Phase) (k j : Nat) : (b.at p k j).phase = p := rfl
@[simp] theorem Bus.at_seg (b : Bus) (p : Phase) (k j : Nat) : (b.at p k j).seg = k := rfl
@[simp] theorem Bus.at_byte (b : Bus) (p : Phase) (k j : Nat) : (b.at p k j).byte = j := rfl
@[simp] theorem Bus.at_err (b : Bus) (p : Phase) (k j : Nat) : (b.at p k j).err = b.err := rfl
@[simp] theorem Bus.at_trace (b : Bus) (p : Phase) (k j : Nat) : (b.at p k j).trace = b.trace := rfl
@[simp] theorem Bus.at_script (b : Bus) (p : Phase) (k j : Nat) : (b.at p k j).script = b.script := rfl
@[simp] theorem Bus.at_draws (b : Bus) (p : Phase) (k j : Nat) : (b.at p k j).draws = b.draws := rfl
@[simp] theorem Bus.at_blocked (b : Bus) (p : Phase) (k j : Nat) : (b.at p k j).blocked = b.blocked := rfl
@[simp] theorem Bus.record_phase (b : Bus) (e : BusEvent) : (b.record e).phase = b.phase := rfl
@[simp] theorem Bus.record_seg (b : Bus) (e : BusEvent) : (b.record e).seg = b.seg := rfl
@[simp] theorem Bus.record_byte (b : Bus) (e : BusEvent) : (b.record e).byte = b.byte := rfl
@[simp] theorem Bus.record_err (b : Bus) (e : BusEvent) : (b.record e).err = b.err := rfl
@[simp] theorem Bus.record_trace (b : Bus) (e : BusEvent) : (b.record e).trace = b.trace ++ [e] := rfl
@[simp] theorem Bus.record_script (b : Bus) (e : BusEvent) : (b.record e).script = b.script := rfl
@[simp] theorem Bus.record_draws (b : Bus) (e : BusEvent) : (b.record e).draws = b.draws := rfl
@[simp] theorem Bus.record_blocked (b : Bus) (e : BusEvent) : (b.record e).blocked = b.blocked := rfl
@[simp] theorem Bus.withErr_phase (b : Bus) (e : Option BusFault) : (b.withErr e).phase = b.phase := rfl
@[simp] theorem Bus.withErr_seg (b : Bus) (e : Option BusFault) : (b.withErr e).seg = b.seg := rfl
@[simp] theorem Bus.withErr_byte (b : Bus) (e : Option BusFault) : (b.withErr e).byte = b.byte := rfl
@[simp] theorem Bus.withErr_err (b : Bus) (e : Option BusFault) : (b.withErr e).err = e := rfl
@[simp] theorem Bus.withErr_trace (b : Bus) (e : Option BusFault) : (b.withErr e).trace = b.trace := rfl
@[simp] theorem Bus.withErr_script (b : Bus) (e : Option BusFault) : (b.withErr e).script = b.script := rfl
@[simp] theorem Bus.withErr_draws (b : Bus) (e : Option BusFault) : (b.withErr e).draws = b.draws := rfl
@[simp] theorem Bus.withErr_blocked (b : Bus) (e : Option BusFault) : (b.withErr e).blocked = b.blocked := rfl
@[simp] theorem Bus.toIdle_phase (b : Bus) : (b.toIdle).phase = .idle := rfl
@[simp] theorem Bus.toIdle_seg (b : Bus) : (b.toIdle).seg = b.seg := rfl
@[simp] theorem Bus.toIdle_byte (b : Bus) : (b.toIdle).byte = b.byte := rfl
@[simp] theorem Bus.toIdle_err (b : Bus) : (b.toIdle).err = none := rfl
@[simp] theorem Bus.toIdle_trace (b : Bus) : (b.toIdle).trace = b.trace := rfl
@[simp] theorem Bus.toIdle_script (b : Bus) : (b.toIdle).script = b.script := rfl
@[simp] theorem Bus.toIdle_draws (b : Bus) : (b.toIdle).draws = b.draws := rfl
@[simp] theorem Bus.toIdle_blocked (b : Bus) : (b.toIdle).blocked = b.blocked := rfl
@[simp] theorem Bus.block_phase (b : Bus) (c : Prim) : (b.block c).phase = b.phase := rfl
@[simp] theorem Bus.block_seg (b : Bus) (c : Prim) : (b.block c).seg = b.seg := rfl
@[simp] theorem Bus.block_byte (b : Bus) (c : Prim) : (b.block c).byte = b.byte := rfl
@[simp] theorem Bus.block_err (b : Bus) (c : Prim) : (b.block c).err = b.err := rfl
@[simp] theorem Bus.block_trace (b : Bus) (c : Prim) : (b.block c).trace = b.trace := rfl
@[simp] theorem Bus.block_script (b : Bus) (c : Prim) : (b.block c).script = b.script := rfl
@[simp] theorem Bus.block_draws (b : Bus) (c : Prim) : (b.block c).draws = b.draws := rfl
@[simp] theorem Bus.block_blocked (b : Bus) (c : Prim) : (b.block c).blocked = some c := rfl

end Sys2Proof.Machine
end

