-- ==== Sys2Proof/Laws/Engine.lean ====
section
/-! SUPPORT. What a primitive call, the stop phase and a submit can do, said once. -/

namespace Sys2Proof.Machine

/-- A draw changes nothing but the script and the counter. -/
theorem drawAnswer_frame (b : Bus) :
    (drawAnswer b).2.phase = b.phase ∧ (drawAnswer b).2.seg = b.seg ∧ (drawAnswer b).2.byte = b.byte ∧
    (drawAnswer b).2.err = b.err ∧ (drawAnswer b).2.trace = b.trace ∧ (drawAnswer b).2.blocked = b.blocked := by
  unfold drawAnswer; split <;> simp

/-- With an answer given in advance, the draw takes it. -/
theorem drawAnswer_script (b : Bus) (x : DrvAnswer) (xs : List DrvAnswer) (h : b.script = x :: xs) :
    drawAnswer b = (x, { b with script := xs }) := by
  simp [drawAnswer, h]

/-- Everything one primitive call can do: the engine position and the error stay; a call that returns or fails adds one letter; one
that does not return adds none and blocks. -/
theorem drvCall_cases (call : Prim) (letter : Bool → Byte → BusEvent) (b : Bus) :
    ∃ b' : Bus, b'.phase = b.phase ∧ b'.seg = b.seg ∧ b'.byte = b.byte ∧ b'.err = b.err ∧ b'.trace = b.trace ∧ b'.blocked = b.blocked ∧
      ((∃ ack x, drvCall call letter b = (.returned ack x, b'.record (letter ack x))) ∨
        drvCall call letter b = (.failed, b'.record (.x call)) ∨ drvCall call letter b = (.never, b'.block call)) := by
  obtain ⟨h1, h2, h3, h4, h5, h6⟩ := drawAnswer_frame b
  refine ⟨(drawAnswer b).2, h1, h2, h3, h4, h5, h6, ?_⟩
  unfold drvCall
  split <;> simp_all

/-- A call whose answer was given in advance and which returns. -/
theorem drvCall_returns (call : Prim) (letter : Bool → Byte → BusEvent) (b : Bus) (ack : Bool) (x : Byte) (xs : List DrvAnswer)
    (h : b.script = .returns ack x :: xs) :
    drvCall call letter b = (.returned ack x, { b with script := xs, trace := b.trace ++ [letter ack x] }) := by
  simp [drvCall, drawAnswer_script b _ _ h, Bus.record]

/-- A call whose answer was given in advance and which fails. -/
theorem drvCall_fails (call : Prim) (letter : Bool → Byte → BusEvent) (b : Bus) (xs : List DrvAnswer) (h : b.script = .fails :: xs) :
    drvCall call letter b = (.failed, { b with script := xs, trace := b.trace ++ [.x call] }) := by
  simp [drvCall, drawAnswer_script b _ _ h, Bus.record]

/-- A call whose answer was given in advance and which never returns. -/
theorem drvCall_never (call : Prim) (letter : Bool → Byte → BusEvent) (b : Bus) (xs : List DrvAnswer) (h : b.script = .never :: xs) :
    drvCall call letter b = (.never, { b with script := xs, blocked := some call }) := by
  simp [drvCall, drawAnswer_script b _ _ h, Bus.block]

/-! ## The segment loop, one call at a time -/

/-- Everything the first byte of a write data phase can do. -/
theorem writeLoop_cons (addr : Addr) (k j : Nat) (x : Byte) (xs : List Byte) (b : Bus) :
    ∃ b' : Bus, b'.phase = .wdata ∧ b'.seg = k ∧ b'.byte = j ∧ b'.err = b.err ∧ b'.trace = b.trace ∧ b'.blocked = b.blocked ∧
      (writeLoop addr k j (x :: xs) b = writeLoop addr k (j + 1) xs (b'.record (.w x true)) ∨
        writeLoop addr k j (x :: xs) b = (.failed (.nackDataWrite addr k j), b'.record (.w x false)) ∨
        writeLoop addr k j (x :: xs) b = (.failed (.driverFault .wbyte), b'.record (.x .wbyte)) ∨
        writeLoop addr k j (x :: xs) b = (.blocked, b'.block .wbyte)) := by
  obtain ⟨b', h1, h2, h3, h4, h5, h6, h⟩ := drvCall_cases .wbyte (fun ack _ => .w x ack) (b.at .wdata k j)
  refine ⟨b', h1, h2, h3, h4, h5, h6, ?_⟩
  rcases h with ⟨_ | _, y, e⟩ | e | e <;> simp [writeLoop, drvWbyte, e]

/-- Everything the first byte of a read data phase can do. -/
theorem readLoop_cons (k len j : Nat) (old : Byte) (olds : List Byte) (b : Bus) :
    ∃ b' : Bus, b'.phase = .rdata ∧ b'.seg = k ∧ b'.byte = j ∧ b'.err = b.err ∧ b'.trace = b.trace ∧ b'.blocked = b.blocked ∧
      ((∃ x o xs b'', readLoop k len (j + 1) olds (b'.record (.r (ackNextOf j len) x)) = (o, xs, b'') ∧
          readLoop k len j (old :: olds) b = (o, x :: xs, b'')) ∨
        readLoop k len j (old :: olds) b = (.failed (.driverFault .rbyte), old :: olds, b'.record (.x .rbyte)) ∨
        readLoop k len j (old :: olds) b = (.blocked, old :: olds, b'.block .rbyte)) := by
  obtain ⟨b', h1, h2, h3, h4, h5, h6, h⟩ := drvCall_cases .rbyte (fun _ y => .r (ackNextOf j len) y) (b.at .rdata k j)
  refine ⟨b', h1, h2, h3, h4, h5, h6, ?_⟩
  simp only [readLoop, drvRbyte]
  rcases h with ⟨_, x, e⟩ | e | e
  · exact .inl ⟨x, _, _, _, rfl, by simp [e]⟩
  · simp [e]
  · simp [e]

theorem dataPhase_write {k : Nat} {g : Segment} (h : g.dir = .write) (b : Bus) :
    dataPhase k g b = ((writeLoop g.addr k 0 g.data b).1, g, (writeLoop g.addr k 0 g.data b).2) := by
  simp [dataPhase, h]

theorem dataPhase_read {k : Nat} {g : Segment} (h : g.dir = .read) (b : Bus) :
    dataPhase k g b = ((readLoop k g.data.length 0 g.data b).1, { g with data := (readLoop k g.data.length 0 g.data b).2.1 },
      (readLoop k g.data.length 0 g.data b).2.2) := by
  simp [dataPhase, h]

/-- Everything an address phase can do. -/
theorem addrPhase_cases (k : Nat) (g : Segment) (b : Bus) :
    ∃ b' : Bus, b'.phase = .addr ∧ b'.seg = k ∧ b'.byte = 0 ∧ b'.err = b.err ∧ b'.trace = b.trace ∧ b'.blocked = b.blocked ∧
      (addrPhase k g b = dataPhase k g (b'.record (.a g.addr (decide (g.dir = .read)) true)) ∨
        addrPhase k g b = (.failed (.nackAddress g.addr), g, b'.record (.a g.addr (decide (g.dir = .read)) false)) ∨
        addrPhase k g b = (.failed (.driverFault .addr), g, b'.record (.x .addr)) ∨
        addrPhase k g b = (.blocked, g, b'.block .addr)) := by
  obtain ⟨b', h1, h2, h3, h4, h5, h6, h⟩ :=
    drvCall_cases .addr (fun ack _ => .a g.addr (decide (g.dir = .read)) ack) (b.at .addr k 0)
  refine ⟨b', h1, h2, h3, h4, h5, h6, ?_⟩
  unfold addrPhase drvAddr
  rcases h with ⟨_ | _, y, e⟩ | e | e <;> simp [e]

/-- Everything a segment can do from its condition on: a start before the first segment, a repeated start before a later one. -/
theorem runSegment_cases (k : Nat) (g : Segment) (b : Bus) :
    ∃ b' : Bus, b'.phase = .start ∧ b'.seg = k ∧ b'.byte = b.byte ∧ b'.err = b.err ∧ b'.trace = b.trace ∧ b'.blocked = b.blocked ∧
      (runSegment k g b = addrPhase k g (b'.record (if k = 0 then .s else .sr)) ∨
        runSegment k g b = (.failed (.driverFault (conditionPrim k)), g, b'.record (.x (conditionPrim k))) ∨
        runSegment k g b = (.blocked, g, b'.block (conditionPrim k))) := by
  obtain ⟨b', h1, h2, h3, h4, h5, h6, h⟩ :=
    drvCall_cases (conditionPrim k) (fun _ _ => if k = 0 then .s else .sr) (b.at .start k b.byte)
  refine ⟨b', h1, h2, h3, h4, h5, h6, ?_⟩
  have hc : conditionCall k (b.at .start k b.byte) =
      drvCall (conditionPrim k) (fun _ _ => if k = 0 then .s else .sr) (b.at .start k b.byte) := by
    by_cases hk : k = 0 <;> simp [conditionCall, conditionPrim, hk, drvStart, drvRstart]
  unfold runSegment
  rw [hc]
  rcases h with ⟨_, y, e⟩ | e | e <;> simp [e]

/-- Everything the segment loop can do with its first segment. -/
theorem runSegments_cons (k : Nat) (g : Segment) (gs : List Segment) (b : Bus) :
    (∃ g' b' o gs' b'', runSegment k g b = (.done, g', b') ∧ runSegments (k + 1) gs b' = (o, gs', b'') ∧
      runSegments k (g :: gs) b = (o, g' :: gs', b'')) ∨
    (∃ f g' b', runSegment k g b = (.failed f, g', b') ∧ runSegments k (g :: gs) b = (.failed f, g' :: gs, b')) ∨
    (∃ g' b', runSegment k g b = (.blocked, g', b') ∧ runSegments k (g :: gs) b = (.blocked, g' :: gs, b')) := by
  rcases h : runSegment k g b with ⟨o, g', b'⟩
  cases o <;> simp [runSegments, h]

/-! ## Stop and result -/

/-- A submit of nothing makes no call. -/
@[simp] theorem engineSubmit_nil (b : Bus) : engineSubmit [] b = (.ok, [], b) := rfl

/-- Everything a submit of something can do, in the terms of its two parts. -/
theorem engineSubmit_cases (g : Segment) (gs : List Segment) (b : Bus) :
    (∃ segs' b', runSegments 0 (g :: gs) (b.withErr none) = (.blocked, segs', b') ∧
      engineSubmit (g :: gs) b = (.blocked, segs', b')) ∨
    (∃ segs' b', runSegments 0 (g :: gs) (b.withErr none) = (.done, segs', b') ∧
      engineSubmit (g :: gs) b = ((stopPhase b').1, segs', (stopPhase b').2)) ∨
    (∃ f segs' b', runSegments 0 (g :: gs) (b.withErr none) = (.failed f, segs', b') ∧
      engineSubmit (g :: gs) b = ((stopPhase (b'.withErr (some f))).1, segs', (stopPhase (b'.withErr (some f))).2)) := by
  unfold engineSubmit
  rcases h : runSegments 0 (g :: gs) (b.withErr none) with ⟨o, segs', b'⟩
  cases o <;> simp

/-- Everything the stop phase can do. -/
theorem stopPhase_cases (b : Bus) :
    ∃ b' : Bus, b'.trace = b.trace ∧ b'.blocked = b.blocked ∧ b'.err = b.err ∧ b'.phase = .stop ∧
      (stopPhase b = (outOfErr b.err, (b'.record .p).toIdle) ∨
        stopPhase b = (outOfErr (b.err <|> some (.driverFault .stop)), (b'.record (.x .stop)).toIdle) ∨
        stopPhase b = (.blocked, b'.block .stop)) := by
  obtain ⟨b', hp, -, -, he, ht, hb, h⟩ := drvCall_cases .stop (fun _ _ => .p) (b.at .stop b.seg b.byte)
  simp only [Bus.at_phase, Bus.at_err, Bus.at_trace, Bus.at_blocked] at hp he ht hb
  refine ⟨b', ht, hb, he, hp, ?_⟩
  unfold stopPhase drvStop
  rcases h with ⟨a, x, e⟩ | e | e <;> simp [e, he]

/-- Everything a transaction of the transport adapter can do. -/
theorem transact_cases (segs : List Segment) (s : State) (k : List Segment → State → State) :
    (∃ segs' b, engineSubmit segs s.bus = (.ok, segs', b) ∧ transact segs s k = k segs' (s.withBus b)) ∨
    (∃ f segs' b, engineSubmit segs s.bus = (.fault f, segs', b) ∧
      transact segs s k = (s.withBus b).withResult (some (.fault (translateFault f)))) ∨
    (∃ segs' b, engineSubmit segs s.bus = (.blocked, segs', b) ∧ transact segs s k = (s.withBus b).withResult none) := by
  unfold transact
  rcases h : engineSubmit segs s.bus with ⟨o, segs', b⟩
  cases o <;> simp

/-- Everything the engine run of `BUS.SUBMIT` can do. -/
theorem submitRun_cases (s : State) :
    ∃ o segs' b, engineSubmit s.txn.segs s.bus = (o, segs', b) ∧
      submitRun s = ((s.withTxn { s.txn with segs := segs', consumed := true }).withBus b).withResult
        (match o with | .ok => some .ok | .fault f => some (.fault (.bus f)) | .blocked => none) := by
  rcases h : engineSubmit s.txn.segs s.bus with ⟨o, segs', b⟩
  refine ⟨o, segs', b, rfl, ?_⟩
  cases o <;> simp [submitRun, h, endSubmit]

/-- Everything `BUS.OPEN` and `BUS.CLOSE` can do. -/
theorem portCommand_cases (call : Prim) (drv : Bus → CallOut × Bus) (s : State) :
    (∃ a x b, drv s.bus = (.returned a x, b) ∧ portCommand call drv s = (s.withBus b).withResult (some .ok)) ∨
    (∃ b, drv s.bus = (.failed, b) ∧ portCommand call drv s = (s.withBus b).withResult (some (.fault (.bus (.driverFault call))))) ∨
    (∃ b, drv s.bus = (.never, b) ∧ portCommand call drv s = (s.withBus b).withResult none) := by
  unfold portCommand
  rcases h : drv s.bus with ⟨o, b⟩
  cases o <;> simp

end Sys2Proof.Machine
end

