-- ==== Sys2Proof/Laws/Exec.lean ====
section
/-! SUPPORT. What `exec` answers for each command, as one equation per command over the shared operations, true by definition. -/

namespace Sys2Proof.Machine

@[simp] theorem exec_cksNew (s : State) : exec .cksNew s =
    .next (s.withCks (cksFresh s.cfg)).ok := rfl
@[simp] theorem exec_cksUpdate8 (imm : Byte) (s : State) : exec (.cksUpdate8 imm) s =
    .next (s.withCks (cksFeed s.cks imm)).ok := rfl
@[simp] theorem exec_cksUpdate16 (imm : BitVec 16) (s : State) : exec (.cksUpdate16 imm) s =
    .next (s.withCks (cksFeed16 s.cks imm)).ok := rfl
@[simp] theorem exec_cksGet (s : State) : exec .cksGet s =
    .next (s.okValue (.bits16 (cksGet s.cfg s.cks))) := rfl
@[simp] theorem exec_prPeekU8 (off : Word32) (s : State) : exec (.prPeekU8 off) s =
    .next (peekScalar .u8 off s) := rfl
@[simp] theorem exec_prPeekS8 (off : Word32) (s : State) : exec (.prPeekS8 off) s =
    .next (peekScalar .s8 off s) := rfl
@[simp] theorem exec_prPeekU16LE (off : Word32) (s : State) : exec (.prPeekU16LE off) s =
    .next (peekScalar .u16le off s) := rfl
@[simp] theorem exec_prPeekS16LE (off : Word32) (s : State) : exec (.prPeekS16LE off) s =
    .next (peekScalar .s16le off s) := rfl
@[simp] theorem exec_prPeekU16BE (off : Word32) (s : State) : exec (.prPeekU16BE off) s =
    .next (peekScalar .u16be off s) := rfl
@[simp] theorem exec_prPeekS16BE (off : Word32) (s : State) : exec (.prPeekS16BE off) s =
    .next (peekScalar .s16be off s) := rfl
@[simp] theorem exec_prPeekU32LE (off : Word32) (s : State) : exec (.prPeekU32LE off) s =
    .next (peekScalar .u32le off s) := rfl
@[simp] theorem exec_prPeekS32LE (off : Word32) (s : State) : exec (.prPeekS32LE off) s =
    .next (peekScalar .s32le off s) := rfl
@[simp] theorem exec_prPeekU32BE (off : Word32) (s : State) : exec (.prPeekU32BE off) s =
    .next (peekScalar .u32be off s) := rfl
@[simp] theorem exec_prPeekS32BE (off : Word32) (s : State) : exec (.prPeekS32BE off) s =
    .next (peekScalar .s32be off s) := rfl
@[simp] theorem exec_prPeekF32 (off : Word32) (s : State) : exec (.prPeekF32 off) s =
    .next (peekScalar .f32 off s) := rfl
@[simp] theorem exec_prPeekF64 (off : Word32) (s : State) : exec (.prPeekF64 off) s =
    .next (peekScalar .f64 off s) := rfl
@[simp] theorem exec_prPeekChar (off : Word32) (s : State) : exec (.prPeekChar off) s =
    .next (peekScalar .char off s) := rfl
@[simp] theorem exec_prPeekBytes (off : Word32) (n : Word32) (s : State) : exec (.prPeekBytes off n) s =
    .next (peekBytes off n s) := rfl
@[simp] theorem exec_prReadU8 (s : State) : exec .prReadU8 s =
    .next (readScalar .u8 s) := rfl
@[simp] theorem exec_prReadS8 (s : State) : exec .prReadS8 s =
    .next (readScalar .s8 s) := rfl
@[simp] theorem exec_prReadU16LE (s : State) : exec .prReadU16LE s =
    .next (readScalar .u16le s) := rfl
@[simp] theorem exec_prReadS16LE (s : State) : exec .prReadS16LE s =
    .next (readScalar .s16le s) := rfl
@[simp] theorem exec_prReadU16BE (s : State) : exec .prReadU16BE s =
    .next (readScalar .u16be s) := rfl
@[simp] theorem exec_prReadS16BE (s : State) : exec .prReadS16BE s =
    .next (readScalar .s16be s) := rfl
@[simp] theorem exec_prReadU32LE (s : State) : exec .prReadU32LE s =
    .next (readScalar .u32le s) := rfl
@[simp] theorem exec_prReadS32LE (s : State) : exec .prReadS32LE s =
    .next (readScalar .s32le s) := rfl
@[simp] theorem exec_prReadU32BE (s : State) : exec .prReadU32BE s =
    .next (readScalar .u32be s) := rfl
@[simp] theorem exec_prReadS32BE (s : State) : exec .prReadS32BE s =
    .next (readScalar .s32be s) := rfl
@[simp] theorem exec_prReadF32 (s : State) : exec .prReadF32 s =
    .next (readScalar .f32 s) := rfl
@[simp] theorem exec_prReadF64 (s : State) : exec .prReadF64 s =
    .next (readScalar .f64 s) := rfl
@[simp] theorem exec_prReadChar (s : State) : exec .prReadChar s =
    .next (readScalar .char s) := rfl
@[simp] theorem exec_prReadBytes (n : Word32) (s : State) : exec (.prReadBytes n) s =
    .next (readBytes n s) := rfl
@[simp] theorem exec_prNew (data : List Byte) (s : State) : exec (.prNew data) s =
    .next (prNewOp data s) := rfl
@[simp] theorem exec_pwPokeU8 (off : Word32) (val : BitVec 8) (s : State) : exec (.pwPokeU8 off val) s =
    .next (pokeScalar .u8 off val.toNat s) := rfl
@[simp] theorem exec_pwPokeS8 (off : Word32) (val : BitVec 8) (s : State) : exec (.pwPokeS8 off val) s =
    .next (pokeScalar .s8 off val.toNat s) := rfl
@[simp] theorem exec_pwPokeU16LE (off : Word32) (val : BitVec 16) (s : State) : exec (.pwPokeU16LE off val) s =
    .next (pokeScalar .u16le off val.toNat s) := rfl
@[simp] theorem exec_pwPokeS16LE (off : Word32) (val : BitVec 16) (s : State) : exec (.pwPokeS16LE off val) s =
    .next (pokeScalar .s16le off val.toNat s) := rfl
@[simp] theorem exec_pwPokeU16BE (off : Word32) (val : BitVec 16) (s : State) : exec (.pwPokeU16BE off val) s =
    .next (pokeScalar .u16be off val.toNat s) := rfl
@[simp] theorem exec_pwPokeS16BE (off : Word32) (val : BitVec 16) (s : State) : exec (.pwPokeS16BE off val) s =
    .next (pokeScalar .s16be off val.toNat s) := rfl
@[simp] theorem exec_pwPokeU32LE (off : Word32) (val : BitVec 32) (s : State) : exec (.pwPokeU32LE off val) s =
    .next (pokeScalar .u32le off val.toNat s) := rfl
@[simp] theorem exec_pwPokeS32LE (off : Word32) (val : BitVec 32) (s : State) : exec (.pwPokeS32LE off val) s =
    .next (pokeScalar .s32le off val.toNat s) := rfl
@[simp] theorem exec_pwPokeU32BE (off : Word32) (val : BitVec 32) (s : State) : exec (.pwPokeU32BE off val) s =
    .next (pokeScalar .u32be off val.toNat s) := rfl
@[simp] theorem exec_pwPokeS32BE (off : Word32) (val : BitVec 32) (s : State) : exec (.pwPokeS32BE off val) s =
    .next (pokeScalar .s32be off val.toNat s) := rfl
@[simp] theorem exec_pwPokeF32 (off : Word32) (val : BitVec 32) (s : State) : exec (.pwPokeF32 off val) s =
    .next (pokeScalar .f32 off val.toNat s) := rfl
@[simp] theorem exec_pwPokeF64 (off : Word32) (val : BitVec 64) (s : State) : exec (.pwPokeF64 off val) s =
    .next (pokeScalar .f64 off val.toNat s) := rfl
@[simp] theorem exec_pwPokeChar (off : Word32) (val : BitVec 8) (s : State) : exec (.pwPokeChar off val) s =
    .next (pokeScalar .char off val.toNat s) := rfl
@[simp] theorem exec_pwPokeBytes (off : Word32) (data : List Byte) (s : State) : exec (.pwPokeBytes off data) s =
    .next (pokeBytes off data s) := rfl
@[simp] theorem exec_pwWriteU8 (val : BitVec 8) (s : State) : exec (.pwWriteU8 val) s =
    .next (writeScalar .u8 val.toNat s) := rfl
@[simp] theorem exec_pwWriteS8 (val : BitVec 8) (s : State) : exec (.pwWriteS8 val) s =
    .next (writeScalar .s8 val.toNat s) := rfl
@[simp] theorem exec_pwWriteU16LE (val : BitVec 16) (s : State) : exec (.pwWriteU16LE val) s =
    .next (writeScalar .u16le val.toNat s) := rfl
@[simp] theorem exec_pwWriteS16LE (val : BitVec 16) (s : State) : exec (.pwWriteS16LE val) s =
    .next (writeScalar .s16le val.toNat s) := rfl
@[simp] theorem exec_pwWriteU16BE (val : BitVec 16) (s : State) : exec (.pwWriteU16BE val) s =
    .next (writeScalar .u16be val.toNat s) := rfl
@[simp] theorem exec_pwWriteS16BE (val : BitVec 16) (s : State) : exec (.pwWriteS16BE val) s =
    .next (writeScalar .s16be val.toNat s) := rfl
@[simp] theorem exec_pwWriteU32LE (val : BitVec 32) (s : State) : exec (.pwWriteU32LE val) s =
    .next (writeScalar .u32le val.toNat s) := rfl
@[simp] theorem exec_pwWriteS32LE (val : BitVec 32) (s : State) : exec (.pwWriteS32LE val) s =
    .next (writeScalar .s32le val.toNat s) := rfl
@[simp] theorem exec_pwWriteU32BE (val : BitVec 32) (s : State) : exec (.pwWriteU32BE val) s =
    .next (writeScalar .u32be val.toNat s) := rfl
@[simp] theorem exec_pwWriteS32BE (val : BitVec 32) (s : State) : exec (.pwWriteS32BE val) s =
    .next (writeScalar .s32be val.toNat s) := rfl
@[simp] theorem exec_pwWriteF32 (val : BitVec 32) (s : State) : exec (.pwWriteF32 val) s =
    .next (writeScalar .f32 val.toNat s) := rfl
@[simp] theorem exec_pwWriteF64 (val : BitVec 64) (s : State) : exec (.pwWriteF64 val) s =
    .next (writeScalar .f64 val.toNat s) := rfl
@[simp] theorem exec_pwWriteChar (val : BitVec 8) (s : State) : exec (.pwWriteChar val) s =
    .next (writeScalar .char val.toNat s) := rfl
@[simp] theorem exec_pwWriteBytes (data : List Byte) (s : State) : exec (.pwWriteBytes data) s =
    .next (writeBytes data s) := rfl
@[simp] theorem exec_pwNew (n : Word32) (s : State) : exec (.pwNew n) s =
    .next (pwNewOp n s) := rfl
@[simp] theorem exec_frmNew (cls : Byte) (id : Byte) (data : List Byte) (s : State) : exec (.frmNew cls id data) s =
    .next (frmNewOp cls id data s) := rfl
@[simp] theorem exec_frmSerialize (s : State) : exec .frmSerialize s =
    .next (needObject s.frm.valid s fun s =>
      (s.withFrm (memoize s.cfg s.frm)).okValue (.bytes ((memoize s.cfg s.frm).ser.getD []))) := rfl
@[simp] theorem exec_frmChecksum (s : State) : exec .frmChecksum s =
    .next (needObject s.frm.valid s fun s =>
      (s.withFrm (memoizeCks s.cfg s.frm)).okValue (.bits16 ((memoizeCks s.cfg s.frm).ck.getD 0))) := rfl
@[simp] theorem exec_frmDeserialize (data : List Byte) (s : State) : exec (.frmDeserialize data) s =
    .next (needLength data.length s fun s => loadFrame s.cfg data s) := rfl
@[simp] theorem exec_txnNew (s : State) : exec .txnNew s =
    .next (s.withTb ⟨true, [], none⟩).ok := rfl
@[simp] theorem exec_txnWith (addr : Byte) (s : State) : exec (.txnWith addr) s =
    .next (needObject s.tb.valid s fun s => needAddress addr s fun s =>
      (s.withTb { s.tb with dflt := some (toAddr addr) }).ok) := rfl
@[simp] theorem exec_txnWrite (addr : Byte) (data : List Byte) (s : State) : exec (.txnWrite addr data) s =
    .next (needObject s.tb.valid s fun s => needAddress addr s fun s => needLength data.length s fun s =>
      appendSegment .write (toAddr addr) data s) := rfl
@[simp] theorem exec_txnRead (addr : Byte) (n : Word32) (s : State) : exec (.txnRead addr n) s =
    .next (needObject s.tb.valid s fun s => needAddress addr s fun s => needLength n.toNat s fun s =>
      appendSegment .read (toAddr addr) (zeroBytes n.toNat) s) := rfl
@[simp] theorem exec_txnWrited (data : List Byte) (s : State) : exec (.txnWrited data) s =
    .next (needObject s.tb.valid s fun s => needDefault s.tb.dflt s fun a s => needLength data.length s fun s =>
      appendSegment .write a data s) := rfl
@[simp] theorem exec_txnReadd (n : Word32) (s : State) : exec (.txnReadd n) s =
    .next (needObject s.tb.valid s fun s => needDefault s.tb.dflt s fun a s => needLength n.toNat s fun s =>
      appendSegment .read a (zeroBytes n.toNat) s) := rfl
@[simp] theorem exec_txnBuild (s : State) : exec .txnBuild s =
    .next (needObject s.tb.valid s fun s =>
      ((s.withTxn ⟨true, s.tb.segs, false⟩).withTb { s.tb with valid := false }).ok) := rfl
@[simp] theorem exec_busOpen (s : State) : exec .busOpen s =
    .next (portCommand .openPort drvOpen s) := rfl
@[simp] theorem exec_busClose (s : State) : exec .busClose s =
    .next (portCommand .closePort drvClose s) := rfl
@[simp] theorem exec_busSubmit (s : State) : exec .busSubmit s =
    .next (needObject s.txn.valid s fun s =>
      if s.txn.consumed then s.refuse .txnConsumed else submitRun s) := rfl
@[simp] theorem exec_tpConfig (addr : Byte) (ceiling : Word32) (s : State) : exec (.tpConfig addr ceiling) s =
    .next (needAddress addr s fun s => (s.withTp ⟨true, toAddr addr, ceiling⟩).ok) := rfl
@[simp] theorem exec_tpSend (s : State) : exec .tpSend s =
    .next (needConfigured s fun s => needObject s.frm.valid s fun s => sendOp s) := rfl
@[simp] theorem exec_tpPoll (s : State) : exec .tpPoll s =
    .next (needConfigured s fun s => pollOp s) := rfl

end Sys2Proof.Machine
end

