-- ==== Sys2Proof/Laws/OpcodeMap.lean ====
section
/-! SUPPORT. The opcode map of 30_encoding.md R75 as one equation per opcode byte, true by computation. -/

namespace Sys2Proof

open Sys2Proof.Machine

@[simp] theorem decode_cksNew (bs : List Byte) : decode (0x10#8 :: bs) = ofParse (argZ .cksNew bs) := rfl
@[simp] theorem decode_cksUpdate8 (bs : List Byte) : decode (0x11#8 :: bs) = ofParse (argV 8 .cksUpdate8 bs) := rfl
@[simp] theorem decode_cksUpdate16 (bs : List Byte) : decode (0x12#8 :: bs) = ofParse (argV 16 .cksUpdate16 bs) := rfl
@[simp] theorem decode_cksGet (bs : List Byte) : decode (0x13#8 :: bs) = ofParse (argZ .cksGet bs) := rfl
@[simp] theorem decode_prPeekU8 (bs : List Byte) : decode (0x40#8 :: bs) = ofParse (argV 32 .prPeekU8 bs) := rfl
@[simp] theorem decode_prPeekS8 (bs : List Byte) : decode (0x41#8 :: bs) = ofParse (argV 32 .prPeekS8 bs) := rfl
@[simp] theorem decode_prPeekU16LE (bs : List Byte) : decode (0x42#8 :: bs) = ofParse (argV 32 .prPeekU16LE bs) := rfl
@[simp] theorem decode_prPeekS16LE (bs : List Byte) : decode (0x43#8 :: bs) = ofParse (argV 32 .prPeekS16LE bs) := rfl
@[simp] theorem decode_prPeekU16BE (bs : List Byte) : decode (0x44#8 :: bs) = ofParse (argV 32 .prPeekU16BE bs) := rfl
@[simp] theorem decode_prPeekS16BE (bs : List Byte) : decode (0x45#8 :: bs) = ofParse (argV 32 .prPeekS16BE bs) := rfl
@[simp] theorem decode_prPeekU32LE (bs : List Byte) : decode (0x46#8 :: bs) = ofParse (argV 32 .prPeekU32LE bs) := rfl
@[simp] theorem decode_prPeekS32LE (bs : List Byte) : decode (0x47#8 :: bs) = ofParse (argV 32 .prPeekS32LE bs) := rfl
@[simp] theorem decode_prPeekU32BE (bs : List Byte) : decode (0x48#8 :: bs) = ofParse (argV 32 .prPeekU32BE bs) := rfl
@[simp] theorem decode_prPeekS32BE (bs : List Byte) : decode (0x49#8 :: bs) = ofParse (argV 32 .prPeekS32BE bs) := rfl
@[simp] theorem decode_prPeekF32 (bs : List Byte) : decode (0x4A#8 :: bs) = ofParse (argV 32 .prPeekF32 bs) := rfl
@[simp] theorem decode_prPeekF64 (bs : List Byte) : decode (0x4B#8 :: bs) = ofParse (argV 32 .prPeekF64 bs) := rfl
@[simp] theorem decode_prPeekChar (bs : List Byte) : decode (0x4C#8 :: bs) = ofParse (argV 32 .prPeekChar bs) := rfl
@[simp] theorem decode_prPeekBytes (bs : List Byte) : decode (0x4D#8 :: bs) = ofParse (argVV 32 32 .prPeekBytes bs) := rfl
@[simp] theorem decode_prReadU8 (bs : List Byte) : decode (0x50#8 :: bs) = ofParse (argZ .prReadU8 bs) := rfl
@[simp] theorem decode_prReadS8 (bs : List Byte) : decode (0x51#8 :: bs) = ofParse (argZ .prReadS8 bs) := rfl
@[simp] theorem decode_prReadU16LE (bs : List Byte) : decode (0x52#8 :: bs) = ofParse (argZ .prReadU16LE bs) := rfl
@[simp] theorem decode_prReadS16LE (bs : List Byte) : decode (0x53#8 :: bs) = ofParse (argZ .prReadS16LE bs) := rfl
@[simp] theorem decode_prReadU16BE (bs : List Byte) : decode (0x54#8 :: bs) = ofParse (argZ .prReadU16BE bs) := rfl
@[simp] theorem decode_prReadS16BE (bs : List Byte) : decode (0x55#8 :: bs) = ofParse (argZ .prReadS16BE bs) := rfl
@[simp] theorem decode_prReadU32LE (bs : List Byte) : decode (0x56#8 :: bs) = ofParse (argZ .prReadU32LE bs) := rfl
@[simp] theorem decode_prReadS32LE (bs : List Byte) : decode (0x57#8 :: bs) = ofParse (argZ .prReadS32LE bs) := rfl
@[simp] theorem decode_prReadU32BE (bs : List Byte) : decode (0x58#8 :: bs) = ofParse (argZ .prReadU32BE bs) := rfl
@[simp] theorem decode_prReadS32BE (bs : List Byte) : decode (0x59#8 :: bs) = ofParse (argZ .prReadS32BE bs) := rfl
@[simp] theorem decode_prReadF32 (bs : List Byte) : decode (0x5A#8 :: bs) = ofParse (argZ .prReadF32 bs) := rfl
@[simp] theorem decode_prReadF64 (bs : List Byte) : decode (0x5B#8 :: bs) = ofParse (argZ .prReadF64 bs) := rfl
@[simp] theorem decode_prReadChar (bs : List Byte) : decode (0x5C#8 :: bs) = ofParse (argZ .prReadChar bs) := rfl
@[simp] theorem decode_prReadBytes (bs : List Byte) : decode (0x5D#8 :: bs) = ofParse (argV 32 .prReadBytes bs) := rfl
@[simp] theorem decode_prNew (bs : List Byte) : decode (0x60#8 :: bs) = ofParse (argB .prNew bs) := rfl
@[simp] theorem decode_pwPokeU8 (bs : List Byte) : decode (0x80#8 :: bs) = ofParse (argVV 32 8 .pwPokeU8 bs) := rfl
@[simp] theorem decode_pwPokeS8 (bs : List Byte) : decode (0x81#8 :: bs) = ofParse (argVV 32 8 .pwPokeS8 bs) := rfl
@[simp] theorem decode_pwPokeU16LE (bs : List Byte) : decode (0x82#8 :: bs) = ofParse (argVV 32 16 .pwPokeU16LE bs) := rfl
@[simp] theorem decode_pwPokeS16LE (bs : List Byte) : decode (0x83#8 :: bs) = ofParse (argVV 32 16 .pwPokeS16LE bs) := rfl
@[simp] theorem decode_pwPokeU16BE (bs : List Byte) : decode (0x84#8 :: bs) = ofParse (argVV 32 16 .pwPokeU16BE bs) := rfl
@[simp] theorem decode_pwPokeS16BE (bs : List Byte) : decode (0x85#8 :: bs) = ofParse (argVV 32 16 .pwPokeS16BE bs) := rfl
@[simp] theorem decode_pwPokeU32LE (bs : List Byte) : decode (0x86#8 :: bs) = ofParse (argVV 32 32 .pwPokeU32LE bs) := rfl
@[simp] theorem decode_pwPokeS32LE (bs : List Byte) : decode (0x87#8 :: bs) = ofParse (argVV 32 32 .pwPokeS32LE bs) := rfl
@[simp] theorem decode_pwPokeU32BE (bs : List Byte) : decode (0x88#8 :: bs) = ofParse (argVV 32 32 .pwPokeU32BE bs) := rfl
@[simp] theorem decode_pwPokeS32BE (bs : List Byte) : decode (0x89#8 :: bs) = ofParse (argVV 32 32 .pwPokeS32BE bs) := rfl
@[simp] theorem decode_pwPokeF32 (bs : List Byte) : decode (0x8A#8 :: bs) = ofParse (argVV 32 32 .pwPokeF32 bs) := rfl
@[simp] theorem decode_pwPokeF64 (bs : List Byte) : decode (0x8B#8 :: bs) = ofParse (argVV 32 64 .pwPokeF64 bs) := rfl
@[simp] theorem decode_pwPokeChar (bs : List Byte) : decode (0x8C#8 :: bs) = ofParse (argVV 32 8 .pwPokeChar bs) := rfl
@[simp] theorem decode_pwPokeBytes (bs : List Byte) : decode (0x8D#8 :: bs) = ofParse (argVB 32 .pwPokeBytes bs) := rfl
@[simp] theorem decode_pwWriteU8 (bs : List Byte) : decode (0x90#8 :: bs) = ofParse (argV 8 .pwWriteU8 bs) := rfl
@[simp] theorem decode_pwWriteS8 (bs : List Byte) : decode (0x91#8 :: bs) = ofParse (argV 8 .pwWriteS8 bs) := rfl
@[simp] theorem decode_pwWriteU16LE (bs : List Byte) : decode (0x92#8 :: bs) = ofParse (argV 16 .pwWriteU16LE bs) := rfl
@[simp] theorem decode_pwWriteS16LE (bs : List Byte) : decode (0x93#8 :: bs) = ofParse (argV 16 .pwWriteS16LE bs) := rfl
@[simp] theorem decode_pwWriteU16BE (bs : List Byte) : decode (0x94#8 :: bs) = ofParse (argV 16 .pwWriteU16BE bs) := rfl
@[simp] theorem decode_pwWriteS16BE (bs : List Byte) : decode (0x95#8 :: bs) = ofParse (argV 16 .pwWriteS16BE bs) := rfl
@[simp] theorem decode_pwWriteU32LE (bs : List Byte) : decode (0x96#8 :: bs) = ofParse (argV 32 .pwWriteU32LE bs) := rfl
@[simp] theorem decode_pwWriteS32LE (bs : List Byte) : decode (0x97#8 :: bs) = ofParse (argV 32 .pwWriteS32LE bs) := rfl
@[simp] theorem decode_pwWriteU32BE (bs : List Byte) : decode (0x98#8 :: bs) = ofParse (argV 32 .pwWriteU32BE bs) := rfl
@[simp] theorem decode_pwWriteS32BE (bs : List Byte) : decode (0x99#8 :: bs) = ofParse (argV 32 .pwWriteS32BE bs) := rfl
@[simp] theorem decode_pwWriteF32 (bs : List Byte) : decode (0x9A#8 :: bs) = ofParse (argV 32 .pwWriteF32 bs) := rfl
@[simp] theorem decode_pwWriteF64 (bs : List Byte) : decode (0x9B#8 :: bs) = ofParse (argV 64 .pwWriteF64 bs) := rfl
@[simp] theorem decode_pwWriteChar (bs : List Byte) : decode (0x9C#8 :: bs) = ofParse (argV 8 .pwWriteChar bs) := rfl
@[simp] theorem decode_pwWriteBytes (bs : List Byte) : decode (0x9D#8 :: bs) = ofParse (argB .pwWriteBytes bs) := rfl
@[simp] theorem decode_pwNew (bs : List Byte) : decode (0xA0#8 :: bs) = ofParse (argV 32 .pwNew bs) := rfl
@[simp] theorem decode_frmNew (bs : List Byte) : decode (0xC0#8 :: bs) = ofParse (argF .frmNew bs) := rfl
@[simp] theorem decode_frmSerialize (bs : List Byte) : decode (0xC1#8 :: bs) = ofParse (argZ .frmSerialize bs) := rfl
@[simp] theorem decode_frmChecksum (bs : List Byte) : decode (0xC2#8 :: bs) = ofParse (argZ .frmChecksum bs) := rfl
@[simp] theorem decode_frmDeserialize (bs : List Byte) : decode (0xC3#8 :: bs) = ofParse (argB .frmDeserialize bs) := rfl
@[simp] theorem decode_txnNew (bs : List Byte) : decode (0xD0#8 :: bs) = ofParse (argZ .txnNew bs) := rfl
@[simp] theorem decode_txnWith (bs : List Byte) : decode (0xD1#8 :: bs) = ofParse (argV 8 .txnWith bs) := rfl
@[simp] theorem decode_txnWrite (bs : List Byte) : decode (0xD2#8 :: bs) = ofParse (argVB 8 .txnWrite bs) := rfl
@[simp] theorem decode_txnRead (bs : List Byte) : decode (0xD3#8 :: bs) = ofParse (argVV 8 32 .txnRead bs) := rfl
@[simp] theorem decode_txnWrited (bs : List Byte) : decode (0xD4#8 :: bs) = ofParse (argB .txnWrited bs) := rfl
@[simp] theorem decode_txnReadd (bs : List Byte) : decode (0xD5#8 :: bs) = ofParse (argV 32 .txnReadd bs) := rfl
@[simp] theorem decode_txnBuild (bs : List Byte) : decode (0xD6#8 :: bs) = ofParse (argZ .txnBuild bs) := rfl
@[simp] theorem decode_busOpen (bs : List Byte) : decode (0xD8#8 :: bs) = ofParse (argZ .busOpen bs) := rfl
@[simp] theorem decode_busClose (bs : List Byte) : decode (0xD9#8 :: bs) = ofParse (argZ .busClose bs) := rfl
@[simp] theorem decode_busSubmit (bs : List Byte) : decode (0xDA#8 :: bs) = ofParse (argZ .busSubmit bs) := rfl
@[simp] theorem decode_tpConfig (bs : List Byte) : decode (0xE0#8 :: bs) = ofParse (argVV 8 32 .tpConfig bs) := rfl
@[simp] theorem decode_tpSend (bs : List Byte) : decode (0xE1#8 :: bs) = ofParse (argZ .tpSend bs) := rfl
@[simp] theorem decode_tpPoll (bs : List Byte) : decode (0xE2#8 :: bs) = ofParse (argZ .tpPoll bs) := rfl

end Sys2Proof
end

