-- ==== Sys2Proof/Laws/Ops.lean ====
section
/-! SUPPORT. What each shared operation over the slots can do, said once. -/

namespace Sys2Proof.Machine

/-! ## Operand forms -/

theorem inRange_iff (eff : Int) (n len : Nat) : inRange eff n len = true ↔ 0 ≤ eff ∧ eff + n ≤ len := by simp [inRange]

/-- An access in range is an access at a natural number. -/
theorem inRange_toNat {eff : Int} {n len : Nat} (h : inRange eff n len = true) : eff.toNat + n ≤ len ∧ (eff.toNat : Int) = eff := by
  rw [inRange_iff] at h; omega

theorem inRange_nat (k n len : Nat) : inRange (k : Int) n len = true ↔ k + n ≤ len := by rw [inRange_iff]; omega

@[simp] theorem fieldBytes_length (t : FieldType) (val : Nat) : (fieldBytes t val).length = fieldWidth t := by
  cases t <;> simp [fieldBytes, fieldWidth]

/-- The value of an offset operand is its two's complement. -/
@[simp] theorem offValue_eq (s : State) (off : Word32) : offValue s.cfg off = off.toInt := sext_toNat off

theorem lengthOk_iff (s : State) (n : Nat) : lengthOk s.cfg n = true ↔ n < 2 ^ 31 := decide_eq_true_iff

theorem addrOk_iff (s : State) (a : Byte) : addrOk s.cfg a = true ↔ a.toNat ≤ 127 := by
  rw [addrOk, decide_eq_true_iff]; exact Nat.lt_succ_iff

/-- An operand in range is the address it names. -/
theorem toAddr_toNat (a : Byte) (h : a.toNat ≤ 127) : (toAddr a).toNat = a.toNat := by
  simp only [toAddr, BitVec.toNat_ofNat]; omega

/-! ## The checks before a command runs -/

@[simp] theorem needObject_true (s : State) (k : State → State) : needObject true s k = k s := rfl
@[simp] theorem needObject_false (s : State) (k : State → State) : needObject false s k = s.refuse .noObject := rfl

theorem needLength_ok {n : Nat} (h : n < 2 ^ 31) (s : State) (k : State → State) : needLength n s k = k s :=
  if_pos ((lengthOk_iff s n).2 h)

theorem needLength_bad {n : Nat} (h : 2 ^ 31 ≤ n) (s : State) (k : State → State) : needLength n s k = s.refuse .operandRange :=
  if_neg fun e => Nat.not_lt.2 h ((lengthOk_iff s n).1 e)

theorem needAddress_ok {a : Byte} (h : a.toNat ≤ 127) (s : State) (k : State → State) : needAddress a s k = k s :=
  if_pos ((addrOk_iff s a).2 h)

theorem needAddress_bad {a : Byte} (h : 127 < a.toNat) (s : State) (k : State → State) :
    needAddress a s k = s.refuse .addressRange :=
  if_neg fun e => Nat.not_le.2 h ((addrOk_iff s a).1 e)

@[simp] theorem needDefault_some (a : Addr) (s : State) (k : Addr → State → State) : needDefault (some a) s k = k a s := rfl
@[simp] theorem needDefault_none (s : State) (k : Addr → State → State) : needDefault none s k = s.refuse .noDefaultAddress := rfl

theorem needConfigured_true {s : State} (h : s.tp.addrValid = true) (k : State → State) : needConfigured s k = k s := by
  simp [needConfigured, h]

theorem needConfigured_false {s : State} (h : s.tp.addrValid = false) (k : State → State) :
    needConfigured s k = s.refuse .notConfigured := by
  simp [needConfigured, h]

/-- Everything a check on a valid bit can do. -/
theorem needObject_cases (valid : Bool) (s : State) (k : State → State) :
    (valid = true ∧ needObject valid s k = k s) ∨
    (valid = false ∧ needObject valid s k = s.withResult (some (.refused .noObject))) := by
  cases valid <;> simp

/-- Everything a check on a length can do. -/
theorem needLength_cases (n : Nat) (s : State) (k : State → State) :
    (n < 2 ^ 31 ∧ needLength n s k = k s) ∨
    (2 ^ 31 ≤ n ∧ needLength n s k = s.withResult (some (.refused .operandRange))) := by
  rcases Nat.lt_or_ge n (2 ^ 31) with h | h
  · exact .inl ⟨h, needLength_ok h s k⟩
  · exact .inr ⟨h, needLength_bad h s k⟩

/-- Everything a check on an address can do. -/
theorem needAddress_cases (a : Byte) (s : State) (k : State → State) :
    (a.toNat ≤ 127 ∧ needAddress a s k = k s) ∨
    (127 < a.toNat ∧ needAddress a s k = s.withResult (some (.refused .addressRange))) := by
  rcases Nat.lt_or_ge 127 a.toNat with h | h
  · exact .inr ⟨h, needAddress_bad h s k⟩
  · exact .inl ⟨h, needAddress_ok h s k⟩

/-- Everything a check on the default address can do. -/
theorem needDefault_cases (d : Option Addr) (s : State) (k : Addr → State → State) :
    (∃ a, d = some a ∧ needDefault d s k = k a s) ∨
    (d = none ∧ needDefault d s k = s.withResult (some (.refused .noDefaultAddress))) := by
  cases d <;> simp

/-- Everything a check on the transport's address can do. -/
theorem needConfigured_cases (s : State) (k : State → State) :
    (s.tp.addrValid = true ∧ needConfigured s k = k s) ∨
    (s.tp.addrValid = false ∧ needConfigured s k = s.withResult (some (.refused .notConfigured))) := by
  cases h : s.tp.addrValid <;> simp [needConfigured, h]

/-! ## The packed reader -/

/-- Everything a scalar peek can do. -/
theorem peekScalar_cases (t : FieldType) (off : Word32) (s : State) :
    (s.pr.valid = false ∧ peekScalar t off s = s.withResult (some (.refused .noObject))) ∨
    (s.pr.valid = true ∧ inRange (effOff off.toInt s.pr.buf.length) (fieldWidth t) s.pr.buf.length = true ∧
      peekScalar t off s = s.withResult (some (.value
        (fieldConv t (memRead s.pr.buf (effOff off.toInt s.pr.buf.length).toNat (fieldWidth t)))))) ∨
    (s.pr.valid = true ∧ inRange (effOff off.toInt s.pr.buf.length) (fieldWidth t) s.pr.buf.length = false ∧
      peekScalar t off s = s.withResult (some (.fault (.boundsError off.toInt (fieldWidth t))))) := by
  cases hv : s.pr.valid <;>
    cases hr : inRange (effOff off.toInt s.pr.buf.length) (fieldWidth t) s.pr.buf.length <;> simp [peekScalar, hv, hr]

/-- Everything a scalar read can do. -/
theorem readScalar_cases (t : FieldType) (s : State) :
    (s.pr.valid = false ∧ readScalar t s = s.withResult (some (.refused .noObject))) ∨
    (s.pr.valid = true ∧ s.pr.cur + fieldWidth t ≤ s.pr.buf.length ∧
      readScalar t s = (s.withPr { s.pr with cur := s.pr.cur + fieldWidth t }).withResult
        (some (.value (fieldConv t (memRead s.pr.buf s.pr.cur (fieldWidth t)))))) ∨
    (s.pr.valid = true ∧ s.pr.buf.length < s.pr.cur + fieldWidth t ∧
      readScalar t s = s.withResult (some (.fault (.boundsError s.pr.cur (fieldWidth t))))) := by
  have hi := inRange_nat s.pr.cur (fieldWidth t) s.pr.buf.length
  cases hv : s.pr.valid <;> cases hr : inRange (s.pr.cur : Int) (fieldWidth t) s.pr.buf.length <;>
    simp [hr] at hi <;> simp [readScalar, hv, hr, hi]

/-- Everything `PR.PEEK.BYTES` can do. -/
theorem peekBytes_cases (off n : Word32) (s : State) :
    (s.pr.valid = false ∧ peekBytes off n s = s.withResult (some (.refused .noObject))) ∨
    (s.pr.valid = true ∧ 2 ^ 31 ≤ n.toNat ∧ peekBytes off n s = s.withResult (some (.refused .operandRange))) ∨
    (s.pr.valid = true ∧ n.toNat < 2 ^ 31 ∧ inRange (effOff off.toInt s.pr.buf.length) n.toNat s.pr.buf.length = true ∧
      peekBytes off n s = s.withResult (some (.value
        (.bytes (memRead s.pr.buf (effOff off.toInt s.pr.buf.length).toNat n.toNat))))) ∨
    (s.pr.valid = true ∧ n.toNat < 2 ^ 31 ∧ inRange (effOff off.toInt s.pr.buf.length) n.toNat s.pr.buf.length = false ∧
      peekBytes off n s = s.withResult (some (.fault (.boundsError off.toInt n.toNat)))) := by
  unfold peekBytes
  cases hv : s.pr.valid
  · exact .inl ⟨rfl, rfl⟩
  rw [needObject_true]
  rcases Nat.lt_or_ge n.toNat (2 ^ 31) with h | h
  · rw [needLength_ok h]
    cases hr : inRange (effOff off.toInt s.pr.buf.length) n.toNat s.pr.buf.length
    · exact .inr (.inr (.inr ⟨rfl, h, rfl, by simp [PackedReader.len, hr]⟩))
    · exact .inr (.inr (.inl ⟨rfl, h, rfl, by simp [PackedReader.len, hr]⟩))
  · rw [needLength_bad h]
    exact .inr (.inl ⟨rfl, h, rfl⟩)

/-- Everything `PR.READ.BYTES` can do. -/
theorem readBytes_cases (n : Word32) (s : State) :
    (s.pr.valid = false ∧ readBytes n s = s.withResult (some (.refused .noObject))) ∨
    (s.pr.valid = true ∧ 2 ^ 31 ≤ n.toNat ∧ readBytes n s = s.withResult (some (.refused .operandRange))) ∨
    (s.pr.valid = true ∧ n.toNat < 2 ^ 31 ∧ s.pr.cur + n.toNat ≤ s.pr.buf.length ∧
      readBytes n s = (s.withPr { s.pr with cur := s.pr.cur + n.toNat }).withResult
        (some (.value (.bytes (memRead s.pr.buf s.pr.cur n.toNat))))) ∨
    (s.pr.valid = true ∧ n.toNat < 2 ^ 31 ∧ s.pr.buf.length < s.pr.cur + n.toNat ∧
      readBytes n s = s.withResult (some (.fault (.boundsError s.pr.cur n.toNat)))) := by
  have hi := inRange_nat s.pr.cur n.toNat s.pr.buf.length
  unfold readBytes
  cases hv : s.pr.valid
  · exact .inl ⟨rfl, rfl⟩
  rw [needObject_true]
  rcases Nat.lt_or_ge n.toNat (2 ^ 31) with h | h
  · rw [needLength_ok h]
    cases hr : inRange (s.pr.cur : Int) n.toNat s.pr.buf.length <;> simp [hr] at hi
    · exact .inr (.inr (.inr ⟨rfl, h, hi, by simp⟩))
    · exact .inr (.inr (.inl ⟨rfl, h, hi, by simp⟩))
  · rw [needLength_bad h]
    exact .inr (.inl ⟨rfl, h, rfl⟩)

/-! ## The packed writer -/

/-- Everything a store at an offset can do. -/
theorem pokeRaw_cases (off : Word32) (xs : List Byte) (s : State) :
    (inRange (effOff off.toInt s.pw.buf.length) xs.length s.pw.buf.length = true ∧
      pokeRaw off xs s = (s.withPw { s.pw with buf := memWrite s.pw.buf (effOff off.toInt s.pw.buf.length).toNat xs }).withResult
        (some .ok)) ∨
    (inRange (effOff off.toInt s.pw.buf.length) xs.length s.pw.buf.length = false ∧
      pokeRaw off xs s = s.withResult (some (.fault (.boundsError off.toInt xs.length)))) := by
  cases hr : inRange (effOff off.toInt s.pw.buf.length) xs.length s.pw.buf.length <;> simp [pokeRaw, hr, storeAt]

/-- Everything a store at the cursor can do. -/
theorem writeRaw_cases (xs : List Byte) (s : State) :
    (s.pw.cur + xs.length ≤ s.pw.buf.length ∧
      writeRaw xs s = (s.withPw { s.pw with buf := memWrite s.pw.buf s.pw.cur xs, cur := s.pw.cur + xs.length }).withResult
        (some .ok)) ∨
    (s.pw.buf.length < s.pw.cur + xs.length ∧
      writeRaw xs s = s.withResult (some (.fault (.boundsError s.pw.cur xs.length)))) := by
  have hi := inRange_nat s.pw.cur xs.length s.pw.buf.length
  cases hr : inRange (s.pw.cur : Int) xs.length s.pw.buf.length <;> simp [hr] at hi <;> simp [writeRaw, hr, hi, storeAt]

/-- A write puts its bytes, one after the other, where it says: the step that replaces the first byte. -/
theorem memWrite_cons (buf : List Byte) (addr : Nat) (x : Byte) (xs : List Byte) (h : addr + (xs.length + 1) ≤ buf.length) :
    memWrite buf addr (x :: xs) = memWrite (buf.set addr x) (addr + 1) xs := by
  apply List.ext_getElem?
  intro a
  have hs : (addr + 1) + xs.length ≤ (buf.set addr x).length := by simp; omega
  rcases Nat.lt_or_ge a addr with ha | ha
  · rw [memWrite_elsewhere _ _ _ (by simpa using h) _ (.inl ha), memWrite_elsewhere _ _ _ hs _ (.inl (by omega)),
      List.getElem?_set_ne (by omega)]
  rcases Nat.eq_or_lt_of_le ha with rfl | ha
  · have e := memWrite_there buf addr (x :: xs) (by simpa using h) 0 (by simp)
    rw [Nat.add_zero] at e
    rw [e, memWrite_elsewhere _ _ _ hs _ (.inl (by omega)), List.getElem?_set_self (by omega)]; rfl
  rcases Nat.lt_or_ge a (addr + (xs.length + 1)) with hb | hb
  · have e := memWrite_there buf addr (x :: xs) (by simpa using h) (a - addr) (by simp; omega)
    have e' := memWrite_there _ _ _ hs (a - addr - 1) (by omega)
    rw [show addr + (a - addr) = a by omega] at e
    rw [show addr + 1 + (a - addr - 1) = a by omega] at e'
    rw [e, e', show a - addr = (a - addr - 1) + 1 by omega, List.getElem?_cons_succ]; rfl
  · rw [memWrite_elsewhere _ _ _ (by simpa using h) _ (.inr (by simpa using hb)),
      memWrite_elsewhere _ _ _ hs _ (.inr (by omega)), List.getElem?_set_ne (by omega)]

/-! ## The frame slot -/

/-- Everything a load of the frame slot can do. -/
theorem loadFrame_cases (cfg : Config) (raw : List Byte) (s : State) :
    (parseFrame cfg raw = none ∧
      loadFrame cfg raw s = (s.withFrm { s.frm with valid := false }).withResult (some .absent)) ∨
    (∃ p, parseFrame cfg raw = some p ∧
      loadFrame cfg raw s = (s.withFrm ⟨true, p.cls, p.id, p.payload, some raw, some p.ck⟩).withResult
        (some (.value .frameSlot))) := by
  cases h : parseFrame cfg raw <;> simp [loadFrame, h]

/-- What `memoize` keeps. -/
theorem memoize_frame (cfg : Config) (f : FrameSlot) :
    (memoize cfg f).valid = f.valid ∧ (memoize cfg f).cls = f.cls ∧ (memoize cfg f).id = f.id ∧
    (memoize cfg f).payload = f.payload ∧ (memoize cfg f).ser.isSome = true := by
  unfold memoize; split <;> simp_all

/-- What `memoizeCks` keeps. -/
theorem memoizeCks_frame (cfg : Config) (f : FrameSlot) :
    (memoizeCks cfg f).valid = f.valid ∧ (memoizeCks cfg f).cls = f.cls ∧ (memoizeCks cfg f).id = f.id ∧
    (memoizeCks cfg f).payload = f.payload ∧ (memoizeCks cfg f).ser = f.ser ∧ (memoizeCks cfg f).ck.isSome = true := by
  unfold memoizeCks; split <;> simp_all

/-- `ser` of a block, with the values of R7. -/
theorem serFrame_eq (d : Build) (c i : Byte) (p : List Byte) :
    serFrame d.config c i p = [0xB5, 0x62] ++ frameBody c i p ++ beBytes 2 (cksOver d.config (frameBody c i p)).toNat := rfl

/-- `parse` of a block, with the values of R7. -/
theorem parseFrame_eq (d : Build) (b : List Byte) : parseFrame d.config b =
    if b.length < 8 then none
    else if byteAt b 0 ≠ 0xB5 ∨ byteAt b 1 ≠ 0x62 then none
    else if declaredLen b + 8 ≠ b.length then none
    else if computedCks d.config b ≠ storedCks b then none
    else some ⟨byteAt b 2, byteAt b 3, memRead b 6 (b.length - 8), storedCks b⟩ := rfl

/-- What a parse that is not Absent has checked (43_frame_codec.md R196). -/
theorem parseFrame_some {d : Build} {b : List Byte} {r : Parsed} (h : parseFrame d.config b = some r) :
    8 ≤ b.length ∧ byteAt b 0 = 0xB5 ∧ byteAt b 1 = 0x62 ∧ declaredLen b + 8 = b.length ∧
    computedCks d.config b = storedCks b ∧ r = ⟨byteAt b 2, byteAt b 3, memRead b 6 (b.length - 8), storedCks b⟩ := by
  rw [parseFrame_eq] at h
  by_cases hl : b.length < 8
  · simp [hl] at h
  by_cases h0 : byteAt b 0 ≠ 0xB5 ∨ byteAt b 1 ≠ 0x62
  · rw [if_neg hl, if_pos h0] at h; cases h
  by_cases hd : declaredLen b + 8 ≠ b.length
  · rw [if_neg hl, if_neg h0, if_pos hd] at h; cases h
  by_cases hc : computedCks d.config b ≠ storedCks b
  · rw [if_neg hl, if_neg h0, if_neg hd, if_pos hc] at h; cases h
  rw [if_neg hl, if_neg h0, if_neg hd, if_neg hc] at h
  rw [not_or, not_not, not_not] at h0
  exact ⟨Nat.not_lt.1 hl, h0.1, h0.2, not_not.1 hd, not_not.1 hc, (Option.some.inj h).symm⟩

/-- And the other way round. -/
theorem parseFrame_of {d : Build} {b : List Byte} (hl : 8 ≤ b.length) (h0 : byteAt b 0 = 0xB5)
    (h1 : byteAt b 1 = 0x62) (hd : declaredLen b + 8 = b.length) (hc : computedCks d.config b = storedCks b) :
    parseFrame d.config b = some ⟨byteAt b 2, byteAt b 3, memRead b 6 (b.length - 8), storedCks b⟩ := by
  have hl' : ¬ b.length < 8 := by omega
  simp [parseFrame_eq, hl', h0, h1, hd, hc]

end Sys2Proof.Machine
end

