-- ==== Sys2Proof/Laws/PerInstr.lean ====
section
/-! SUPPORT. The family `EncodedBytes`: a statement about every command as syntax, one lemma per command. -/

namespace Sys2Proof.Laws.EncodedBytes

open Sys2Proof

/-- The encoding of a command starts with an opcode byte that the opcode map knows, whatever bytes follow it (30_encoding.md R70,
R75). -/
def Statement (i : Instr) : Prop := ∃ op tail, encode i = op :: tail ∧ ∀ bs, decode (op :: bs) ≠ .unknownOpcode

theorem cksNew : Statement .cksNew := ⟨_, _, rfl, fun _ => command_known _ _⟩
theorem cksUpdate8 (imm : Byte) : Statement (.cksUpdate8 imm) := ⟨_, _, rfl, fun _ => ofParse_known _⟩
theorem cksUpdate16 (imm : BitVec 16) : Statement (.cksUpdate16 imm) := ⟨_, _, rfl, fun _ => ofParse_known _⟩
theorem cksGet : Statement .cksGet := ⟨_, _, rfl, fun _ => command_known _ _⟩
theorem prPeekU8 (off : Word32) : Statement (.prPeekU8 off) := ⟨_, _, rfl, fun _ => ofParse_known _⟩
theorem prPeekS8 (off : Word32) : Statement (.prPeekS8 off) := ⟨_, _, rfl, fun _ => ofParse_known _⟩
theorem prPeekU16LE (off : Word32) : Statement (.prPeekU16LE off) := ⟨_, _, rfl, fun _ => ofParse_known _⟩
theorem prPeekS16LE (off : Word32) : Statement (.prPeekS16LE off) := ⟨_, _, rfl, fun _ => ofParse_known _⟩
theorem prPeekU16BE (off : Word32) : Statement (.prPeekU16BE off) := ⟨_, _, rfl, fun _ => ofParse_known _⟩
theorem prPeekS16BE (off : Word32) : Statement (.prPeekS16BE off) := ⟨_, _, rfl, fun _ => ofParse_known _⟩
theorem prPeekU32LE (off : Word32) : Statement (.prPeekU32LE off) := ⟨_, _, rfl, fun _ => ofParse_known _⟩
theorem prPeekS32LE (off : Word32) : Statement (.prPeekS32LE off) := ⟨_, _, rfl, fun _ => ofParse_known _⟩
theorem prPeekU32BE (off : Word32) : Statement (.prPeekU32BE off) := ⟨_, _, rfl, fun _ => ofParse_known _⟩
theorem prPeekS32BE (off : Word32) : Statement (.prPeekS32BE off) := ⟨_, _, rfl, fun _ => ofParse_known _⟩
theorem prPeekF32 (off : Word32) : Statement (.prPeekF32 off) := ⟨_, _, rfl, fun _ => ofParse_known _⟩
theorem prPeekF64 (off : Word32) : Statement (.prPeekF64 off) := ⟨_, _, rfl, fun _ => ofParse_known _⟩
theorem prPeekChar (off : Word32) : Statement (.prPeekChar off) := ⟨_, _, rfl, fun _ => ofParse_known _⟩
theorem prPeekBytes (off : Word32) (n : Word32) : Statement (.prPeekBytes off n) := ⟨_, _, rfl, fun _ => ofParse_known _⟩
theorem prReadU8 : Statement .prReadU8 := ⟨_, _, rfl, fun _ => command_known _ _⟩
theorem prReadS8 : Statement .prReadS8 := ⟨_, _, rfl, fun _ => command_known _ _⟩
theorem prReadU16LE : Statement .prReadU16LE := ⟨_, _, rfl, fun _ => command_known _ _⟩
theorem prReadS16LE : Statement .prReadS16LE := ⟨_, _, rfl, fun _ => command_known _ _⟩
theorem prReadU16BE : Statement .prReadU16BE := ⟨_, _, rfl, fun _ => command_known _ _⟩
theorem prReadS16BE : Statement .prReadS16BE := ⟨_, _, rfl, fun _ => command_known _ _⟩
theorem prReadU32LE : Statement .prReadU32LE := ⟨_, _, rfl, fun _ => command_known _ _⟩
theorem prReadS32LE : Statement .prReadS32LE := ⟨_, _, rfl, fun _ => command_known _ _⟩
theorem prReadU32BE : Statement .prReadU32BE := ⟨_, _, rfl, fun _ => command_known _ _⟩
theorem prReadS32BE : Statement .prReadS32BE := ⟨_, _, rfl, fun _ => command_known _ _⟩
theorem prReadF32 : Statement .prReadF32 := ⟨_, _, rfl, fun _ => command_known _ _⟩
theorem prReadF64 : Statement .prReadF64 := ⟨_, _, rfl, fun _ => command_known _ _⟩
theorem prReadChar : Statement .prReadChar := ⟨_, _, rfl, fun _ => command_known _ _⟩
theorem prReadBytes (n : Word32) : Statement (.prReadBytes n) := ⟨_, _, rfl, fun _ => ofParse_known _⟩
theorem prNew (data : List Byte) : Statement (.prNew data) := ⟨_, _, rfl, fun _ => ofParse_known _⟩
theorem pwPokeU8 (off : Word32) (val : BitVec 8) : Statement (.pwPokeU8 off val) := ⟨_, _, rfl, fun _ => ofParse_known _⟩
theorem pwPokeS8 (off : Word32) (val : BitVec 8) : Statement (.pwPokeS8 off val) := ⟨_, _, rfl, fun _ => ofParse_known _⟩
theorem pwPokeU16LE (off : Word32) (val : BitVec 16) : Statement (.pwPokeU16LE off val) :=
  ⟨_, _, rfl, fun _ => ofParse_known _⟩
theorem pwPokeS16LE (off : Word32) (val : BitVec 16) : Statement (.pwPokeS16LE off val) :=
  ⟨_, _, rfl, fun _ => ofParse_known _⟩
theorem pwPokeU16BE (off : Word32) (val : BitVec 16) : Statement (.pwPokeU16BE off val) :=
  ⟨_, _, rfl, fun _ => ofParse_known _⟩
theorem pwPokeS16BE (off : Word32) (val : BitVec 16) : Statement (.pwPokeS16BE off val) :=
  ⟨_, _, rfl, fun _ => ofParse_known _⟩
theorem pwPokeU32LE (off : Word32) (val : BitVec 32) : Statement (.pwPokeU32LE off val) :=
  ⟨_, _, rfl, fun _ => ofParse_known _⟩
theorem pwPokeS32LE (off : Word32) (val : BitVec 32) : Statement (.pwPokeS32LE off val) :=
  ⟨_, _, rfl, fun _ => ofParse_known _⟩
theorem pwPokeU32BE (off : Word32) (val : BitVec 32) : Statement (.pwPokeU32BE off val) :=
  ⟨_, _, rfl, fun _ => ofParse_known _⟩
theorem pwPokeS32BE (off : Word32) (val : BitVec 32) : Statement (.pwPokeS32BE off val) :=
  ⟨_, _, rfl, fun _ => ofParse_known _⟩
theorem pwPokeF32 (off : Word32) (val : BitVec 32) : Statement (.pwPokeF32 off val) := ⟨_, _, rfl, fun _ => ofParse_known _⟩
theorem pwPokeF64 (off : Word32) (val : BitVec 64) : Statement (.pwPokeF64 off val) := ⟨_, _, rfl, fun _ => ofParse_known _⟩
theorem pwPokeChar (off : Word32) (val : BitVec 8) : Statement (.pwPokeChar off val) := ⟨_, _, rfl, fun _ => ofParse_known _⟩
theorem pwPokeBytes (off : Word32) (data : List Byte) : Statement (.pwPokeBytes off data) :=
  ⟨_, _, rfl, fun _ => ofParse_known _⟩
theorem pwWriteU8 (val : BitVec 8) : Statement (.pwWriteU8 val) := ⟨_, _, rfl, fun _ => ofParse_known _⟩
theorem pwWriteS8 (val : BitVec 8) : Statement (.pwWriteS8 val) := ⟨_, _, rfl, fun _ => ofParse_known _⟩
theorem pwWriteU16LE (val : BitVec 16) : Statement (.pwWriteU16LE val) := ⟨_, _, rfl, fun _ => ofParse_known _⟩
theorem pwWriteS16LE (val : BitVec 16) : Statement (.pwWriteS16LE val) := ⟨_, _, rfl, fun _ => ofParse_known _⟩
theorem pwWriteU16BE (val : BitVec 16) : Statement (.pwWriteU16BE val) := ⟨_, _, rfl, fun _ => ofParse_known _⟩
theorem pwWriteS16BE (val : BitVec 16) : Statement (.pwWriteS16BE val) := ⟨_, _, rfl, fun _ => ofParse_known _⟩
theorem pwWriteU32LE (val : BitVec 32) : Statement (.pwWriteU32LE val) := ⟨_, _, rfl, fun _ => ofParse_known _⟩
theorem pwWriteS32LE (val : BitVec 32) : Statement (.pwWriteS32LE val) := ⟨_, _, rfl, fun _ => ofParse_known _⟩
theorem pwWriteU32BE (val : BitVec 32) : Statement (.pwWriteU32BE val) := ⟨_, _, rfl, fun _ => ofParse_known _⟩
theorem pwWriteS32BE (val : BitVec 32) : Statement (.pwWriteS32BE val) := ⟨_, _, rfl, fun _ => ofParse_known _⟩
theorem pwWriteF32 (val : BitVec 32) : Statement (.pwWriteF32 val) := ⟨_, _, rfl, fun _ => ofParse_known _⟩
theorem pwWriteF64 (val : BitVec 64) : Statement (.pwWriteF64 val) := ⟨_, _, rfl, fun _ => ofParse_known _⟩
theorem pwWriteChar (val : BitVec 8) : Statement (.pwWriteChar val) := ⟨_, _, rfl, fun _ => ofParse_known _⟩
theorem pwWriteBytes (data : List Byte) : Statement (.pwWriteBytes data) := ⟨_, _, rfl, fun _ => ofParse_known _⟩
theorem pwNew (n : Word32) : Statement (.pwNew n) := ⟨_, _, rfl, fun _ => ofParse_known _⟩
theorem frmNew (cls : Byte) (id : Byte) (data : List Byte) : Statement (.frmNew cls id data) :=
  ⟨_, _, rfl, fun _ => ofParse_known _⟩
theorem frmSerialize : Statement .frmSerialize := ⟨_, _, rfl, fun _ => command_known _ _⟩
theorem frmChecksum : Statement .frmChecksum := ⟨_, _, rfl, fun _ => command_known _ _⟩
theorem frmDeserialize (data : List Byte) : Statement (.frmDeserialize data) := ⟨_, _, rfl, fun _ => ofParse_known _⟩
theorem txnNew : Statement .txnNew := ⟨_, _, rfl, fun _ => command_known _ _⟩
theorem txnWith (addr : Byte) : Statement (.txnWith addr) := ⟨_, _, rfl, fun _ => ofParse_known _⟩
theorem txnWrite (addr : Byte) (data : List Byte) : Statement (.txnWrite addr data) := ⟨_, _, rfl, fun _ => ofParse_known _⟩
theorem txnRead (addr : Byte) (n : Word32) : Statement (.txnRead addr n) := ⟨_, _, rfl, fun _ => ofParse_known _⟩
theorem txnWrited (data : List Byte) : Statement (.txnWrited data) := ⟨_, _, rfl, fun _ => ofParse_known _⟩
theorem txnReadd (n : Word32) : Statement (.txnReadd n) := ⟨_, _, rfl, fun _ => ofParse_known _⟩
theorem txnBuild : Statement .txnBuild := ⟨_, _, rfl, fun _ => command_known _ _⟩
theorem busOpen : Statement .busOpen := ⟨_, _, rfl, fun _ => command_known _ _⟩
theorem busClose : Statement .busClose := ⟨_, _, rfl, fun _ => command_known _ _⟩
theorem busSubmit : Statement .busSubmit := ⟨_, _, rfl, fun _ => command_known _ _⟩
theorem tpConfig (addr : Byte) (ceiling : Word32) : Statement (.tpConfig addr ceiling) :=
  ⟨_, _, rfl, fun _ => ofParse_known _⟩
theorem tpSend : Statement .tpSend := ⟨_, _, rfl, fun _ => command_known _ _⟩
theorem tpPoll : Statement .tpPoll := ⟨_, _, rfl, fun _ => command_known _ _⟩

end Sys2Proof.Laws.EncodedBytes
end

