-- ==== Sys2Proof/Laws/Step.lean ====
section
/-! SUPPORT. What a fetch and a step can do, said once. -/

namespace Sys2Proof.Machine

/-- Everything a fetch can do. -/
theorem fetch_cases (s : State) :
    (s.cmdIn = [] ∧ fetch s = .waiting) ∨
    (∃ bytes more i rest, s.cmdIn = bytes :: more ∧ decode bytes = .command i rest ∧
      fetch s = .run i (s.withCmdIn (leftOver rest more))) ∨
    (∃ bytes more, s.cmdIn = bytes :: more ∧ decode bytes = .unknownOpcode ∧
      fetch s = .reject .unknownOpcode (s.withCmdIn more)) ∨
    (∃ bytes more, s.cmdIn = bytes :: more ∧ decode bytes = .truncated ∧
      fetch s = .reject .truncatedCommand (s.withCmdIn more)) := by
  unfold fetch
  split
  · next h => simp [h]
  · next bytes more h => cases hd : decode bytes <;> simp [h, hd]

/-- Everything a step that answers a next state has done. -/
theorem step_cases {s t : State} (h : step s = .next t) :
    s.bus.blocked = none ∧
    ((s.cmdIn = [] ∧ t = s) ∨
      (∃ bytes more i rest, s.cmdIn = bytes :: more ∧ decode bytes = .command i rest ∧
        exec i (s.withCmdIn (leftOver rest more)) = .next t) ∨
      (∃ r more, t = (s.withCmdIn more).withResult (some (.refused r)))) := by
  unfold step at h
  split at h
  · cases h
  · next hb =>
    refine ⟨hb, ?_⟩
    rcases fetch_cases s with ⟨hc, e⟩ | ⟨bytes, more, i, rest, hc, hd, e⟩ | ⟨bytes, more, hc, hd, e⟩ | ⟨bytes, more, hc, hd, e⟩ <;>
      simp only [e] at h
    · cases h; exact .inl ⟨hc, rfl⟩
    · exact .inr (.inl ⟨bytes, more, i, rest, hc, hd, h⟩)
    · cases h; exact .inr (.inr ⟨_, more, rfl⟩)
    · cases h; exact .inr (.inr ⟨_, more, rfl⟩)

/-- A word placed for the next step is what that step fetches. -/
theorem withFetchWord_fetch (s : State) (nbits w : Nat) :
    (s.withFetchWord nbits w).bus.blocked = none ∧ (s.withFetchWord nbits w).cmdIn = tableBytes nbits w :: s.cmdIn := ⟨rfl, rfl⟩

end Sys2Proof.Machine
end

