-- ==== Sys2Proof/Machine/Asm.lean ====
section
/-! DEFINITION. The assembler text of a command (30_encoding.md R85): mnemonic, then the operands in format order. -/

namespace Sys2Proof.Machine

/-- One hexadecimal digit. -/
def hexDigit (n : Nat) : String := (["0", "1", "2", "3", "4", "5", "6", "7", "8", "9", "A", "B", "C", "D", "E", "F"][n]?).getD "0"

/-- The low `digits` hexadecimal digits of a number. -/
def hexText : Nat → Nat → String
  | 0, _ => ""
  | digits + 1, n => hexText digits (n / 16) ++ hexDigit (n % 16)

/-- An unsigned integer operand. -/
def natText (n : Nat) : String := toString n

/-- A signed integer operand: an offset, or a value of a signed type. -/
def intText (v : Int) : String := toString v

/-- An operand in hexadecimal, `digits` digits: a byte, or a floating-point pattern. -/
def hexOperand (digits n : Nat) : String := "0x" ++ hexText digits n

/-- A `data` operand: two-digit hexadecimal bytes in brackets; its `n` is not written. -/
def dataText (data : List Byte) : String := "[" ++ String.intercalate " " (data.map fun x => hexText 2 x.toNat) ++ "]"

/-- The operands of a command, in format order. -/
def operandTexts : Instr → List String
  | .cksNew => []
  | .cksUpdate8 imm => [hexOperand 2 imm.toNat]
  | .cksUpdate16 imm => [hexOperand 4 imm.toNat]
  | .cksGet => []
  | .prPeekU8 off => [intText off.toInt]
  | .prPeekS8 off => [intText off.toInt]
  | .prPeekU16LE off => [intText off.toInt]
  | .prPeekS16LE off => [intText off.toInt]
  | .prPeekU16BE off => [intText off.toInt]
  | .prPeekS16BE off => [intText off.toInt]
  | .prPeekU32LE off => [intText off.toInt]
  | .prPeekS32LE off => [intText off.toInt]
  | .prPeekU32BE off => [intText off.toInt]
  | .prPeekS32BE off => [intText off.toInt]
  | .prPeekF32 off => [intText off.toInt]
  | .prPeekF64 off => [intText off.toInt]
  | .prPeekChar off => [intText off.toInt]
  | .prPeekBytes off n => [intText off.toInt, natText n.toNat]
  | .prReadU8 => []
  | .prReadS8 => []
  | .prReadU16LE => []
  | .prReadS16LE => []
  | .prReadU16BE => []
  | .prReadS16BE => []
  | .prReadU32LE => []
  | .prReadS32LE => []
  | .prReadU32BE => []
  | .prReadS32BE => []
  | .prReadF32 => []
  | .prReadF64 => []
  | .prReadChar => []
  | .prReadBytes n => [natText n.toNat]
  | .prNew data => [dataText data]
  | .pwPokeU8 off val => [intText off.toInt, natText val.toNat]
  | .pwPokeS8 off val => [intText off.toInt, intText val.toInt]
  | .pwPokeU16LE off val => [intText off.toInt, natText val.toNat]
  | .pwPokeS16LE off val => [intText off.toInt, intText val.toInt]
  | .pwPokeU16BE off val => [intText off.toInt, natText val.toNat]
  | .pwPokeS16BE off val => [intText off.toInt, intText val.toInt]
  | .pwPokeU32LE off val => [intText off.toInt, natText val.toNat]
  | .pwPokeS32LE off val => [intText off.toInt, intText val.toInt]
  | .pwPokeU32BE off val => [intText off.toInt, natText val.toNat]
  | .pwPokeS32BE off val => [intText off.toInt, intText val.toInt]
  | .pwPokeF32 off val => [intText off.toInt, hexOperand 8 val.toNat]
  | .pwPokeF64 off val => [intText off.toInt, hexOperand 16 val.toNat]
  | .pwPokeChar off val => [intText off.toInt, natText val.toNat]
  | .pwPokeBytes off data => [intText off.toInt, dataText data]
  | .pwWriteU8 val => [natText val.toNat]
  | .pwWriteS8 val => [intText val.toInt]
  | .pwWriteU16LE val => [natText val.toNat]
  | .pwWriteS16LE val => [intText val.toInt]
  | .pwWriteU16BE val => [natText val.toNat]
  | .pwWriteS16BE val => [intText val.toInt]
  | .pwWriteU32LE val => [natText val.toNat]
  | .pwWriteS32LE val => [intText val.toInt]
  | .pwWriteU32BE val => [natText val.toNat]
  | .pwWriteS32BE val => [intText val.toInt]
  | .pwWriteF32 val => [hexOperand 8 val.toNat]
  | .pwWriteF64 val => [hexOperand 16 val.toNat]
  | .pwWriteChar val => [natText val.toNat]
  | .pwWriteBytes data => [dataText data]
  | .pwNew n => [natText n.toNat]
  | .frmNew cls id data => [hexOperand 2 cls.toNat, hexOperand 2 id.toNat, dataText data]
  | .frmSerialize => []
  | .frmChecksum => []
  | .frmDeserialize data => [dataText data]
  | .txnNew => []
  | .txnWith addr => [hexOperand 2 addr.toNat]
  | .txnWrite addr data => [hexOperand 2 addr.toNat, dataText data]
  | .txnRead addr n => [hexOperand 2 addr.toNat, natText n.toNat]
  | .txnWrited data => [dataText data]
  | .txnReadd n => [natText n.toNat]
  | .txnBuild => []
  | .busOpen => []
  | .busClose => []
  | .busSubmit => []
  | .tpConfig addr ceiling => [hexOperand 2 addr.toNat, natText ceiling.toNat]
  | .tpSend => []
  | .tpPoll => []

/-- The text of a command. -/
def asmText (i : Instr) : String :=
  match operandTexts i with
  | [] => i.mnemonic
  | ops => i.mnemonic ++ " " ++ String.intercalate ", " ops

end Sys2Proof.Machine
end

