-- ==== Sys2Proof/Tests/Slice0.lean ====
section
/-! SUPPORT. Our own tests: words written out from the spec's encoding, ill-formed terms, the spec's vectors (95_test_vectors.md)
one step at a time, and for every obligation with hypotheses a state and operands that meet them. -/

open Sys2Proof Sys2Proof.Machine Sys2Proof.Claim

namespace Sys2Proof.Tests

/-! ## Small states -/

/-- The state after a command, from a state in which it answers a next state. -/
def after (i : Instr) (s : State) : State :=
  match exec i s with
  | .next t => t
  | _ => s

/-- The result of a command. -/
def resultOf (i : Instr) (s : State) : Option Result := (after i s).result

def reading (buf : List Byte) (cur : Nat) : State := State.reset.withPr ⟨true, buf, cur⟩
def writing (buf : List Byte) (cur : Nat) : State := State.reset.withPw ⟨true, buf, cur⟩
def framed (cls id : Byte) (payload : List Byte) : State := State.reset.withFrm ⟨true, cls, id, payload, none, none⟩
def building (segs : List Segment) (dflt : Option Addr) : State := State.reset.withTb ⟨true, segs, dflt⟩
def handed (bytes : List (List Byte)) : State := State.reset.withCmdIn bytes

/-- A state with answers given in advance. -/
def scripted (script : List DrvAnswer) (s : State) : State := s.withBus { s.bus with script := script }

/-- A built transaction and the environment's answers. -/
def submitting (segs : List Segment) (script : List DrvAnswer) : State :=
  scripted script (State.reset.withTxn ⟨true, segs, false⟩)

/-- A configured transport. -/
def polling (ceiling : Word32) (script : List DrvAnswer) : State := scripted script (State.reset.withTp ⟨true, 0x42, ceiling⟩)

def ex : List Byte := [0x80, 0x01, 0x02, 0xFF, 0xFE, 0x7F, 0x06, 0x07]
def frm1 : List Byte := [0xB5, 0x62, 0x0A, 0x04, 0x00, 0x00, 0x0E, 0x34]
def t3 : List Segment := [⟨.write, 0x03, [0x40, 0x41]⟩, ⟨.write, 0x04, [0x01, 0x02, 0x03]⟩, ⟨.read, 0x04, [0x00]⟩]

def yes : DrvAnswer := .returns true 0
def nack : DrvAnswer := .returns false 0

/-! ## Decoding: a word for every command, written out from 30_encoding.md R72, R73, R75 -/

theorem test_decode_checksum :
    decode [0x10] = .command .cksNew [] ∧
    decode [0x11, 0x02] = .command (.cksUpdate8 0x02) [] ∧
    decode [0x12, 0x34, 0x12] = .command (.cksUpdate16 0x1234) [] ∧
    decode [0x13] = .command .cksGet [] := by
  refine ⟨rfl, rfl, rfl, rfl⟩

theorem test_decode_reader_peeks :
    decode [0x40, 0xFE, 0xFF, 0xFF, 0xFF] = .command (.prPeekU8 0xFFFFFFFE) [] ∧
    decode [0x41, 0xFE, 0xFF, 0xFF, 0xFF] = .command (.prPeekS8 0xFFFFFFFE) [] ∧
    decode [0x42, 0xFE, 0xFF, 0xFF, 0xFF] = .command (.prPeekU16LE 0xFFFFFFFE) [] ∧
    decode [0x43, 0xFE, 0xFF, 0xFF, 0xFF] = .command (.prPeekS16LE 0xFFFFFFFE) [] ∧
    decode [0x44, 0xFE, 0xFF, 0xFF, 0xFF] = .command (.prPeekU16BE 0xFFFFFFFE) [] ∧
    decode [0x45, 0xFE, 0xFF, 0xFF, 0xFF] = .command (.prPeekS16BE 0xFFFFFFFE) [] ∧
    decode [0x46, 0xFE, 0xFF, 0xFF, 0xFF] = .command (.prPeekU32LE 0xFFFFFFFE) [] ∧
    decode [0x47, 0xFE, 0xFF, 0xFF, 0xFF] = .command (.prPeekS32LE 0xFFFFFFFE) [] ∧
    decode [0x48, 0xFE, 0xFF, 0xFF, 0xFF] = .command (.prPeekU32BE 0xFFFFFFFE) [] ∧
    decode [0x49, 0xFE, 0xFF, 0xFF, 0xFF] = .command (.prPeekS32BE 0xFFFFFFFE) [] ∧
    decode [0x4A, 0xFE, 0xFF, 0xFF, 0xFF] = .command (.prPeekF32 0xFFFFFFFE) [] ∧
    decode [0x4B, 0xFE, 0xFF, 0xFF, 0xFF] = .command (.prPeekF64 0xFFFFFFFE) [] ∧
    decode [0x4C, 0xFE, 0xFF, 0xFF, 0xFF] = .command (.prPeekChar 0xFFFFFFFE) [] ∧
    decode [0x4D, 0xFE, 0xFF, 0xFF, 0xFF, 0x03, 0x01, 0x00, 0x00] = .command (.prPeekBytes 0xFFFFFFFE 0x00000103) [] := by
  refine ⟨rfl, rfl, rfl, rfl, rfl, rfl, rfl, rfl, rfl, rfl, rfl, rfl, rfl, rfl⟩

theorem test_decode_reader_reads :
    decode [0x50] = .command .prReadU8 [] ∧
    decode [0x51] = .command .prReadS8 [] ∧
    decode [0x52] = .command .prReadU16LE [] ∧
    decode [0x53] = .command .prReadS16LE [] ∧
    decode [0x54] = .command .prReadU16BE [] ∧
    decode [0x55] = .command .prReadS16BE [] ∧
    decode [0x56] = .command .prReadU32LE [] ∧
    decode [0x57] = .command .prReadS32LE [] ∧
    decode [0x58] = .command .prReadU32BE [] ∧
    decode [0x59] = .command .prReadS32BE [] ∧
    decode [0x5A] = .command .prReadF32 [] ∧
    decode [0x5B] = .command .prReadF64 [] ∧
    decode [0x5C] = .command .prReadChar [] ∧
    decode [0x5D, 0x03, 0x01, 0x00, 0x00] = .command (.prReadBytes 0x00000103) [] := by
  refine ⟨rfl, rfl, rfl, rfl, rfl, rfl, rfl, rfl, rfl, rfl, rfl, rfl, rfl, rfl⟩

theorem test_decode_reader_new :
    decode [0x60, 0x02, 0x00, 0x00, 0x00, 0xAA, 0xBB] = .command (.prNew [0xAA, 0xBB]) [] := by
  refine rfl

theorem test_decode_writer_pokes :
    decode [0x80, 0xFE, 0xFF, 0xFF, 0xFF, 0x11] = .command (.pwPokeU8 0xFFFFFFFE 0x11) [] ∧
    decode [0x81, 0xFE, 0xFF, 0xFF, 0xFF, 0x11] = .command (.pwPokeS8 0xFFFFFFFE 0x11) [] ∧
    decode [0x82, 0xFE, 0xFF, 0xFF, 0xFF, 0x22, 0x11] = .command (.pwPokeU16LE 0xFFFFFFFE 0x1122) [] ∧
    decode [0x83, 0xFE, 0xFF, 0xFF, 0xFF, 0x22, 0x11] = .command (.pwPokeS16LE 0xFFFFFFFE 0x1122) [] ∧
    decode [0x84, 0xFE, 0xFF, 0xFF, 0xFF, 0x22, 0x11] = .command (.pwPokeU16BE 0xFFFFFFFE 0x1122) [] ∧
    decode [0x85, 0xFE, 0xFF, 0xFF, 0xFF, 0x22, 0x11] = .command (.pwPokeS16BE 0xFFFFFFFE 0x1122) [] ∧
    decode [0x86, 0xFE, 0xFF, 0xFF, 0xFF, 0x44, 0x33, 0x22, 0x11] = .command (.pwPokeU32LE 0xFFFFFFFE 0x11223344) [] ∧
    decode [0x87, 0xFE, 0xFF, 0xFF, 0xFF, 0x44, 0x33, 0x22, 0x11] = .command (.pwPokeS32LE 0xFFFFFFFE 0x11223344) [] ∧
    decode [0x88, 0xFE, 0xFF, 0xFF, 0xFF, 0x44, 0x33, 0x22, 0x11] = .command (.pwPokeU32BE 0xFFFFFFFE 0x11223344) [] ∧
    decode [0x89, 0xFE, 0xFF, 0xFF, 0xFF, 0x44, 0x33, 0x22, 0x11] = .command (.pwPokeS32BE 0xFFFFFFFE 0x11223344) [] ∧
    decode [0x8A, 0xFE, 0xFF, 0xFF, 0xFF, 0x44, 0x33, 0x22, 0x11] = .command (.pwPokeF32 0xFFFFFFFE 0x11223344) [] ∧
    decode [0x8B, 0xFE, 0xFF, 0xFF, 0xFF, 0x88, 0x77, 0x66, 0x55, 0x44, 0x33, 0x22, 0x11] = .command (.pwPokeF64 0xFFFFFFFE 0x1122334455667788) [] ∧
    decode [0x8C, 0xFE, 0xFF, 0xFF, 0xFF, 0x11] = .command (.pwPokeChar 0xFFFFFFFE 0x11) [] ∧
    decode [0x8D, 0xFE, 0xFF, 0xFF, 0xFF, 0x02, 0x00, 0x00, 0x00, 0xAA, 0xBB] = .command (.pwPokeBytes 0xFFFFFFFE [0xAA, 0xBB]) [] := by
  refine ⟨rfl, rfl, rfl, rfl, rfl, rfl, rfl, rfl, rfl, rfl, rfl, rfl, rfl, rfl⟩

theorem test_decode_writer_writes :
    decode [0x90, 0x11] = .command (.pwWriteU8 0x11) [] ∧
    decode [0x91, 0x11] = .command (.pwWriteS8 0x11) [] ∧
    decode [0x92, 0x22, 0x11] = .command (.pwWriteU16LE 0x1122) [] ∧
    decode [0x93, 0x22, 0x11] = .command (.pwWriteS16LE 0x1122) [] ∧
    decode [0x94, 0x22, 0x11] = .command (.pwWriteU16BE 0x1122) [] ∧
    decode [0x95, 0x22, 0x11] = .command (.pwWriteS16BE 0x1122) [] ∧
    decode [0x96, 0x44, 0x33, 0x22, 0x11] = .command (.pwWriteU32LE 0x11223344) [] ∧
    decode [0x97, 0x44, 0x33, 0x22, 0x11] = .command (.pwWriteS32LE 0x11223344) [] ∧
    decode [0x98, 0x44, 0x33, 0x22, 0x11] = .command (.pwWriteU32BE 0x11223344) [] ∧
    decode [0x99, 0x44, 0x33, 0x22, 0x11] = .command (.pwWriteS32BE 0x11223344) [] ∧
    decode [0x9A, 0x44, 0x33, 0x22, 0x11] = .command (.pwWriteF32 0x11223344) [] ∧
    decode [0x9B, 0x88, 0x77, 0x66, 0x55, 0x44, 0x33, 0x22, 0x11] = .command (.pwWriteF64 0x1122334455667788) [] ∧
    decode [0x9C, 0x11] = .command (.pwWriteChar 0x11) [] ∧
    decode [0x9D, 0x02, 0x00, 0x00, 0x00, 0xAA, 0xBB] = .command (.pwWriteBytes [0xAA, 0xBB]) [] := by
  refine ⟨rfl, rfl, rfl, rfl, rfl, rfl, rfl, rfl, rfl, rfl, rfl, rfl, rfl, rfl⟩

theorem test_decode_writer_new :
    decode [0xA0, 0x03, 0x01, 0x00, 0x00] = .command (.pwNew 0x00000103) [] := by
  refine rfl

theorem test_decode_frame :
    decode [0xC0, 0x0A, 0x04, 0x02, 0x00, 0x00, 0x00, 0xAA, 0xBB] = .command (.frmNew 0x0A 0x04 [0xAA, 0xBB]) [] ∧
    decode [0xC1] = .command .frmSerialize [] ∧
    decode [0xC2] = .command .frmChecksum [] ∧
    decode [0xC3, 0x02, 0x00, 0x00, 0x00, 0xAA, 0xBB] = .command (.frmDeserialize [0xAA, 0xBB]) [] := by
  refine ⟨rfl, rfl, rfl, rfl⟩

theorem test_decode_builder :
    decode [0xD0] = .command .txnNew [] ∧
    decode [0xD1, 0x42] = .command (.txnWith 0x42) [] ∧
    decode [0xD2, 0x42, 0x02, 0x00, 0x00, 0x00, 0xAA, 0xBB] = .command (.txnWrite 0x42 [0xAA, 0xBB]) [] ∧
    decode [0xD3, 0x42, 0x03, 0x01, 0x00, 0x00] = .command (.txnRead 0x42 0x00000103) [] ∧
    decode [0xD4, 0x02, 0x00, 0x00, 0x00, 0xAA, 0xBB] = .command (.txnWrited [0xAA, 0xBB]) [] ∧
    decode [0xD5, 0x03, 0x01, 0x00, 0x00] = .command (.txnReadd 0x00000103) [] ∧
    decode [0xD6] = .command .txnBuild [] := by
  refine ⟨rfl, rfl, rfl, rfl, rfl, rfl, rfl⟩

theorem test_decode_bus :
    decode [0xD8] = .command .busOpen [] ∧
    decode [0xD9] = .command .busClose [] ∧
    decode [0xDA] = .command .busSubmit [] := by
  refine ⟨rfl, rfl, rfl⟩

theorem test_decode_transport :
    decode [0xE0, 0x42, 0x00, 0x10, 0x00, 0x00] = .command (.tpConfig 0x42 0x00001000) [] ∧
    decode [0xE1] = .command .tpSend [] ∧
    decode [0xE2] = .command .tpPoll [] := by
  refine ⟨rfl, rfl, rfl⟩

/-- The same word by the opcode table's numbering, bit 0 first. -/
theorem test_decode_table_word :
    decodeTableWord 40 0xFFFFFFFE44 = some (.prPeekU16BE (-2)) ∧ decodeTableWord 8 0x00 = none ∧
    decodeTableWord 8 0x60 = some (.prNew []) := ⟨rfl, rfl, rfl⟩

theorem test_encode_frame_new :
    encode (.frmNew 1 2 [0xDE, 0xAD, 0xBE, 0xEF]) = [0xC0, 0x01, 0x02, 0x04, 0, 0, 0, 0xDE, 0xAD, 0xBE, 0xEF] := rfl

theorem test_step_runs_the_fetched_word :
    step (State.reset.withFetchWord 16 0x0211) = exec (.cksUpdate8 0x02) (State.reset.withCmdIn [zeroBytes 11]) := rfl

/-! ## WellFormed: each check refuses an ill-formed term -/

theorem dataFits_limit : dataFits (List.replicate (2 ^ 32) 0) = false ∧ dataFits (List.replicate (2 ^ 32 - 1) 0) = true := by
  simp only [dataFits, List.length_replicate]; exact ⟨rfl, rfl⟩

theorem test_wf_refuses_too_much_data :
    Instr.wf (.prNew (List.replicate (2 ^ 32) 0)) = false ∧ Instr.wf (.pwPokeBytes 0 (List.replicate (2 ^ 32) 0)) = false ∧
    Instr.wf (.pwWriteBytes (List.replicate (2 ^ 32) 0)) = false ∧ Instr.wf (.frmNew 0 0 (List.replicate (2 ^ 32) 0)) = false ∧
    Instr.wf (.frmDeserialize (List.replicate (2 ^ 32) 0)) = false ∧ Instr.wf (.txnWrite 0 (List.replicate (2 ^ 32) 0)) = false ∧
    Instr.wf (.txnWrited (List.replicate (2 ^ 32) 0)) = false := by
  simp only [Instr.wf, dataFits_limit, and_self]

/-! ## The spec's vectors -/

-- V-CKS-12, V-CKS-13 (its last step), V-CKS-16, V-CKS-17
theorem test_checksum_vectors :
    (after (.cksUpdate16 0x1234) State.reset).cks = ⟨0x46, 0x58⟩ ∧
    (after (.cksUpdate8 0x12) (State.reset.withCks ⟨0x34, 0x34⟩)).cks = ⟨0x46, 0x7A⟩ ∧
    resultOf .cksGet (State.reset.withCks ⟨0x03, 0x04⟩) = some (.value (.bits16 0x0304)) ∧
    (after .cksNew (State.reset.withCks ⟨0x55, 0x55⟩)).cks = ⟨0, 0⟩ := ⟨rfl, rfl, rfl, rfl⟩

-- V-PR-1, 2, 4, 5, 7, 9, 10, 14, 15, 16, 17, 19, 20
theorem test_peek_vectors :
    resultOf (.prPeekU8 0) (reading ex 0) = some (.value (.int 128)) ∧
    resultOf (.prPeekS8 0) (reading ex 0) = some (.value (.int (-128))) ∧
    resultOf (.prPeekU16LE (-2)) (reading ex 0) = some (.value (.int 1798)) ∧
    resultOf (.prPeekU16BE (-2)) (reading ex 0) = some (.value (.int 1543)) ∧
    resultOf (.prPeekS16LE 3) (reading ex 0) = some (.value (.int (-257))) ∧
    resultOf (.prPeekS16BE 3) (reading ex 0) = some (.value (.int (-2))) ∧
    resultOf (.prPeekU32LE 0) (reading ex 0) = some (.value (.int 4278321536)) ∧
    resultOf (.prPeekS32LE 0) (reading ex 0) = some (.value (.int (-16645760))) ∧
    resultOf (.prPeekU32BE 3) (reading ex 0) = some (.value (.int 4294868742)) ∧
    resultOf (.prPeekS32BE (-4)) (reading ex 0) = some (.value (.int (-25229817))) ∧
    resultOf (.prPeekF32 (-4)) (reading ex 0) = some (.value (.bits32 0x07067FFE)) ∧
    resultOf (.prPeekF64 (-8)) (reading ex 0) = some (.value (.bits64 0x07067FFEFF020180)) ∧
    resultOf (.prPeekChar 3) (reading ex 0) = some (.value (.char 255)) ∧
    resultOf (.prPeekBytes (-3) 2) (reading ex 0) = some (.value (.bytes [0x7F, 0x06])) :=
  ⟨rfl, rfl, rfl, rfl, rfl, rfl, rfl, rfl, rfl, rfl, rfl, rfl, rfl, rfl⟩

-- V-PR-18, 22, 23, 29, 30
theorem test_peek_faults :
    resultOf (.prPeekF64 1) (reading ex 0) = some (.fault (.boundsError 1 8)) ∧
    resultOf (.prPeekF64 (-4)) (reading ex 0) = some (.fault (.boundsError (-4) 8)) ∧
    resultOf (.prPeekBytes 9 0) (reading ex 0) = some (.fault (.boundsError 9 0)) ∧
    resultOf (.prPeekU8 (-9)) (reading ex 0) = some (.fault (.boundsError (-9) 1)) ∧
    resultOf (.prPeekU8 0) State.reset = some (.refused .noObject) ∧
    resultOf (.prPeekBytes 0 0x80000000) (reading ex 0) = some (.refused .operandRange) := ⟨rfl, rfl, rfl, rfl, rfl, rfl⟩

-- V-PR-25, V-PR-26 step by step; the remaining types by the values of V-PR-7 to V-PR-19
theorem test_read_vectors :
    (after .prReadU8 (reading ex 0)).pr.cur = 1 ∧
    resultOf .prReadU16BE (reading ex 1) = some (.value (.int 258)) ∧
    resultOf .prReadS8 (reading ex 3) = some (.value (.int (-1))) ∧
    resultOf .prReadU32LE (reading ex 4) = some (.value (.int 117866494)) ∧
    resultOf .prReadU16LE (reading ex 4) = some (.value (.int 32766)) ∧
    resultOf .prReadS16LE (reading ex 3) = some (.value (.int (-257))) ∧
    resultOf .prReadS16BE (reading ex 3) = some (.value (.int (-2))) ∧
    resultOf .prReadS32LE (reading ex 0) = some (.value (.int (-16645760))) ∧
    resultOf .prReadU32BE (reading ex 0) = some (.value (.int 2147549951)) ∧
    resultOf .prReadS32BE (reading ex 4) = some (.value (.int (-25229817))) ∧
    resultOf .prReadF32 (reading ex 4) = some (.value (.bits32 0x07067FFE)) ∧
    (after .prReadF64 (reading ex 0)).pr.cur = 8 ∧
    resultOf .prReadChar (reading ex 0) = some (.value (.char 128)) ∧
    resultOf (.prReadBytes 2) (reading ex 6) = some (.value (.bytes [0x06, 0x07])) ∧
    after .prReadU32LE (reading ex 6) = (reading ex 6).withResult (some (.fault (.boundsError 6 4))) :=
  ⟨rfl, rfl, rfl, rfl, rfl, rfl, rfl, rfl, rfl, rfl, rfl, rfl, rfl, rfl, rfl⟩

-- V-PW-1 to V-PW-14
theorem test_poke_vectors :
    (after (.pwPokeU8 (-1) 0xAB) (writing (zeroBytes 8) 0)).pw.buf = [0, 0, 0, 0, 0, 0, 0, 0xAB] ∧
    (after (.pwPokeS8 0 (-1)) (writing (zeroBytes 8) 0)).pw.buf = [0xFF, 0, 0, 0, 0, 0, 0, 0] ∧
    (after (.pwPokeU16LE 0 0x1234) (writing (zeroBytes 8) 0)).pw.buf = [0x34, 0x12, 0, 0, 0, 0, 0, 0] ∧
    (after (.pwPokeU16BE 0 0x1234) (writing (zeroBytes 8) 0)).pw.buf = [0x12, 0x34, 0, 0, 0, 0, 0, 0] ∧
    (after (.pwPokeS16LE 2 (-2)) (writing (zeroBytes 8) 0)).pw.buf = [0, 0, 0xFE, 0xFF, 0, 0, 0, 0] ∧
    (after (.pwPokeS16BE 2 (-2)) (writing (zeroBytes 8) 0)).pw.buf = [0, 0, 0xFF, 0xFE, 0, 0, 0, 0] ∧
    (after (.pwPokeU32LE 1 0x11223344) (writing (zeroBytes 8) 0)).pw.buf = [0, 0x44, 0x33, 0x22, 0x11, 0, 0, 0] ∧
    (after (.pwPokeU32BE (-4) 0x11223344) (writing (zeroBytes 8) 0)).pw.buf = [0, 0, 0, 0, 0x11, 0x22, 0x33, 0x44] ∧
    (after (.pwPokeS32LE 0 (-16645760)) (writing (zeroBytes 8) 0)).pw.buf = [0x80, 0x01, 0x02, 0xFF, 0, 0, 0, 0] ∧
    (after (.pwPokeS32BE 0 (-2)) (writing (zeroBytes 8) 0)).pw.buf = [0xFF, 0xFF, 0xFF, 0xFE, 0, 0, 0, 0] ∧
    (after (.pwPokeF32 0 0x7FC00001) (writing (zeroBytes 8) 0)).pw.buf = [0x01, 0x00, 0xC0, 0x7F, 0, 0, 0, 0] ∧
    (after (.pwPokeF64 0 0x3FF0000000000000) (writing (zeroBytes 8) 0)).pw.buf = [0, 0, 0, 0, 0, 0, 0xF0, 0x3F] ∧
    (after (.pwPokeChar 0 0x41) (writing (zeroBytes 8) 0)).pw.buf = [0x41, 0, 0, 0, 0, 0, 0, 0] ∧
    (after (.pwPokeBytes (-3) [0xAA, 0xBB]) (writing (zeroBytes 8) 0)).pw.buf = [0, 0, 0, 0, 0, 0xAA, 0xBB, 0] :=
  ⟨rfl, rfl, rfl, rfl, rfl, rfl, rfl, rfl, rfl, rfl, rfl, rfl, rfl, rfl⟩

-- V-PW-15, 16, 18, 20, 21, 22
theorem test_writer_faults :
    after (.pwPokeBytes 7 [0xAA, 0xBB]) (writing (zeroBytes 8) 0) =
      (writing (zeroBytes 8) 0).withResult (some (.fault (.boundsError 7 2))) ∧
    resultOf (.pwPokeU8 8 1) (writing (zeroBytes 8) 0) = some (.fault (.boundsError 8 1)) ∧
    resultOf (.pwPokeU32LE 5 1) (writing (zeroBytes 8) 0) = some (.fault (.boundsError 5 4)) ∧
    resultOf (.pwWriteU8 0) (writing ex 8) = some (.fault (.boundsError 8 1)) ∧
    resultOf (.pwWriteBytes []) (writing ex 8) = some .ok ∧
    resultOf (.pwWriteU8 1) (writing [] 0) = some (.fault (.boundsError 0 1)) ∧
    resultOf (.pwWriteU8 1) State.reset = some (.refused .noObject) := ⟨rfl, rfl, rfl, rfl, rfl, rfl, rfl⟩

-- V-PW-17, V-PW-19 and the byte orders of V-PW-2 to V-PW-13, at the cursor
theorem test_write_vectors :
    (after (.pwWriteU8 0x62) (writing [0xB5, 0, 0] 1)).pw = ⟨true, [0xB5, 0x62, 0], 2⟩ ∧
    (after (.pwWriteS8 (-1)) (writing [0, 0] 1)).pw = ⟨true, [0, 0xFF], 2⟩ ∧
    (after (.pwWriteU16LE 0x0004) (writing [1, 0, 0] 1)).pw = ⟨true, [1, 4, 0], 3⟩ ∧
    (after (.pwWriteS16LE (-2)) (writing [1, 0, 0] 1)).pw = ⟨true, [1, 0xFE, 0xFF], 3⟩ ∧
    (after (.pwWriteU16BE 0x0203) (writing [0, 0] 0)).pw = ⟨true, [2, 3], 2⟩ ∧
    (after (.pwWriteS16BE (-2)) (writing [0, 0] 0)).pw = ⟨true, [0xFF, 0xFE], 2⟩ ∧
    (after (.pwWriteU32LE 1) (writing (zeroBytes 4) 0)).pw = ⟨true, [1, 0, 0, 0], 4⟩ ∧
    (after (.pwWriteS32LE (-16645760)) (writing (zeroBytes 4) 0)).pw = ⟨true, [0x80, 0x01, 0x02, 0xFF], 4⟩ ∧
    (after (.pwWriteU32BE 0x11223344) (writing (zeroBytes 4) 0)).pw = ⟨true, [0x11, 0x22, 0x33, 0x44], 4⟩ ∧
    (after (.pwWriteS32BE (-2)) (writing (zeroBytes 4) 0)).pw = ⟨true, [0xFF, 0xFF, 0xFF, 0xFE], 4⟩ ∧
    (after (.pwWriteF32 0x3F800000) (writing (zeroBytes 4) 0)).pw = ⟨true, [0, 0, 0x80, 0x3F], 4⟩ ∧
    (after (.pwWriteF64 0x3FF0000000000000) (writing (zeroBytes 8) 0)).pw = ⟨true, [0, 0, 0, 0, 0, 0, 0xF0, 0x3F], 8⟩ ∧
    (after (.pwWriteChar 0x41) (writing [0] 0)).pw = ⟨true, [0x41], 1⟩ ∧
    (after (.pwWriteBytes [0xDE, 0xAD]) (writing [1, 0, 0, 4] 1)).pw = ⟨true, [1, 0xDE, 0xAD, 4], 3⟩ :=
  ⟨rfl, rfl, rfl, rfl, rfl, rfl, rfl, rfl, rfl, rfl, rfl, rfl, rfl, rfl⟩

-- R112, R152, and P6 steps 13 and 14
theorem test_reader_and_writer_new :
    (after (.prNew ex) State.reset).pr = ⟨true, ex, 0⟩ ∧ (after (.pwNew 2) State.reset).pw = ⟨true, [0, 0], 0⟩ ∧
    resultOf (.pwNew 0x80000000) State.reset = some (.refused .operandRange) := ⟨rfl, rfl, rfl⟩

-- V-FRM-1, V-FRM-2, V-FRM-5
theorem test_serialize_vectors :
    resultOf .frmSerialize (framed 0x0A 0x04 []) = some (.value (.bytes frm1)) ∧
    resultOf .frmSerialize (framed 0x06 0x01 [0xF0, 0x05, 0x00]) =
      some (.value (.bytes [0xB5, 0x62, 0x06, 0x01, 0x03, 0x00, 0xF0, 0x05, 0x00, 0xFF, 0x19])) ∧
    resultOf .frmChecksum (framed 0xFF 0xFF [0xFF]) = some (.value (.bits16 0xFEF9)) := ⟨rfl, rfl, rfl⟩

-- The same frame in a B_HIGH block, section 2's rule: the last two bytes swapped
theorem test_serialize_in_the_other_order :
    resultOf .frmSerialize ((State.resetOf ⟨.bHigh, 0, 0, false⟩).withFrm ⟨true, 0x0A, 0x04, [], none, none⟩) =
      some (.value (.bytes [0xB5, 0x62, 0x0A, 0x04, 0x00, 0x00, 0x34, 0x0E])) ∧
    resultOf .cksGet ((State.resetOf ⟨.bHigh, 0, 0, false⟩).withCks ⟨0x06, 0x0A⟩) = some (.value (.bits16 0x0A06)) := ⟨rfl, rfl⟩

-- V-FRM-9: the length bytes 00 01 are fed low byte first
theorem test_checksum_feeds_the_length_low_byte_first :
    resultOf .frmChecksum (framed 0x01 0x07 (zeroBytes 256)) = some (.value (.bits16 0x091A)) := by decide +kernel

-- V-FRM-10 for V-FRM-1, V-FRM-11 at its last position, P3 step 5
theorem test_deserialize_vectors :
    (after (.frmDeserialize frm1) State.reset).frm = ⟨true, 0x0A, 0x04, [], some frm1, some 0x0E34⟩ ∧
    resultOf (.frmDeserialize [0xB5, 0x62, 0x0A, 0x04, 0x00, 0x00, 0x0E, 0x35]) State.reset = some .absent ∧
    resultOf (.frmDeserialize [0xB5, 0x62, 0x01, 0x02, 0x04, 0x00, 0xDE, 0xAD, 0xBE, 0xEE, 0x3F, 0x18]) State.reset = some .absent ∧
    (after (.frmNew 1 2 [0xDE]) State.reset).frm = ⟨true, 1, 2, [0xDE], none, none⟩ := ⟨rfl, rfl, rfl, rfl⟩

-- V-TXN-1, 3, 4, 5, 6, 10
theorem test_builder_vectors :
    resultOf (.txnWrite 0x03 [0x40]) State.reset = some (.refused .noObject) ∧
    after (.txnWith 0x80) (building [] none) = (building [] none).withResult (some (.refused .addressRange)) ∧
    (after (.txnWrite 0x7F []) (building [] none)).tb.segs = [⟨.write, 0x7F, []⟩] ∧
    (after (.txnReadd 2) (building [⟨.write, 0x42, [0xFC]⟩] (some 0x43))).tb.segs =
      [⟨.write, 0x42, [0xFC]⟩, ⟨.read, 0x43, [0, 0]⟩] ∧
    (after (.txnWrited [0xFC]) (building [] (some 0x42))).tb.segs = [⟨.write, 0x42, [0xFC]⟩] ∧
    (after .txnBuild (building t3 none)).txn = ⟨true, t3, false⟩ ∧ (after .txnBuild (building t3 none)).tb.valid = false ∧
    resultOf (.txnRead 0x04 0x80000000) (building [] none) = some (.refused .operandRange) ∧
    (after (.txnRead 0x04 1) (building [] none)).tb.segs = [⟨.read, 0x04, [0]⟩] ∧
    (after .txnNew (building t3 (some 1))).tb = ⟨true, [], none⟩ ∧
    (after (.txnWith 0x43) (building t3 (some 0x42))).tb.dflt = some 0x43 :=
  ⟨rfl, rfl, rfl, rfl, rfl, rfl, rfl, rfl, rfl, rfl, rfl⟩

-- V-BUS-2
theorem test_submit_three_segments :
    (after .busSubmit (submitting t3 (ackScript [0, 0, 0, 0, 0, 0, 0, 0, 0, 0, 0, 0x5A, 0]))).bus.trace =
      [.s, .a 0x03 false true, .w 0x40 true, .w 0x41 true, .sr, .a 0x04 false true, .w 0x01 true, .w 0x02 true, .w 0x03 true,
        .sr, .a 0x04 true true, .r false 0x5A, .p] ∧
    (after .busSubmit (submitting t3 (ackScript [0, 0, 0, 0, 0, 0, 0, 0, 0, 0, 0, 0x5A, 0]))).txn.segs[2]? =
      some ⟨.read, 0x04, [0x5A]⟩ := ⟨rfl, rfl⟩

-- V-BUS-14, V-BUS-16, V-BUS-17, V-BUS-18
theorem test_bus_failures :
    (after .busSubmit (submitting t3 [yes, yes, yes, yes, yes, .fails, yes])).bus.trace =
      [.s, .a 0x03 false true, .w 0x40 true, .w 0x41 true, .sr, .x .addr, .p] ∧
    resultOf .busSubmit (submitting [⟨.write, 0x10, [0xAA]⟩] [yes, yes, yes, .fails]) = some (.fault (.bus (.driverFault .stop))) ∧
    resultOf .busSubmit (submitting [⟨.write, 0x10, [0xAA]⟩] [yes, nack, .fails]) = some (.fault (.bus (.nackAddress 0x10))) ∧
    (after .busOpen (scripted [.fails] State.reset)).bus.trace = [.x .openPort] ∧
    (after .busClose (scripted [yes] State.reset)).bus.trace = [.closed] := ⟨rfl, rfl, rfl, rfl, rfl⟩

-- V-TP-1, V-TP-3
theorem test_send_vectors :
    (after .tpSend ((polling 4096 (List.replicate 11 yes)).withFrm ⟨true, 0x0A, 0x04, [], none, none⟩)).bus.trace =
      [.s, .a 0x42 false true, .w 0xB5 true, .w 0x62 true, .w 0x0A true, .w 0x04 true, .w 0 true, .w 0 true, .w 0x0E true,
        .w 0x34 true, .p] ∧
    resultOf .tpSend ((polling 4096 [yes, yes, yes, yes, nack, yes]).withFrm ⟨true, 0x0A, 0x04, [], none, none⟩) =
      some (.fault (.transportGeneric (.nackDataWrite 0x42 0 2))) := ⟨rfl, rfl⟩

-- V-TP-5, V-TP-7, V-TP-10, V-TP-16, V-TP-20
theorem test_poll_vectors :
    (after .tpPoll (polling 4096 (pollScript 0 [8, 0] ++ pollScript 0 frm1))).frm =
      ⟨true, 0x0A, 0x04, [], some frm1, some 0x0E34⟩ ∧
    (after .tpPoll (polling 4096 (pollScript 0 [0x01, 0x10]))).bus.trace =
      [.s, .a 0x42 false true, .w 0xFC true, .sr, .a 0x42 true true, .r true 0x01, .r false 0x10, .p] ∧
    resultOf .tpPoll (polling 4096 (pollScript 0 [2, 0] ++ pollScript 0 [0xFF, 0xFF])) = some .absent ∧
    resultOf .tpPoll (polling 4096 (pollScript 0 [8, 0] ++ [yes, yes, yes, yes, nack, yes])) =
      some (.fault (.transportUnreachable (.nackAddress 0x42))) ∧
    resultOf (.tpConfig 0x80 4096) State.reset = some (.refused .addressRange) := ⟨rfl, rfl, rfl, rfl, rfl⟩

/-- The type of V-REG-1 to V-REG-3: a decoder that takes four bytes. -/
def t12 : MessageType (List Byte) := ⟨0x01, 0x02, fun p => if p.length = 4 then some p else none⟩

theorem test_registry_vectors :
    unflatten (register [] t12) ⟨0x01, 0x02, [0xDE, 0xAD, 0xBE, 0xEF]⟩ = some [0xDE, 0xAD, 0xBE, 0xEF] ∧
    unflatten (register [] t12) ⟨0x06, 0x01, [0xF0, 0x05, 0x00]⟩ = none ∧
    unflatten (register [] t12) ⟨0x01, 0x02, [0xDE, 0xAD, 0xBE]⟩ = none := by decide

-- 46_transport_and_registry.md R263, with messages of type t12 that are their own payload
theorem test_flatten_then_unflatten :
    flatten ⟨fun _ => t12, id⟩ [1, 2, 3, 4] = ⟨0x01, 0x02, [1, 2, 3, 4]⟩ ∧
    (flatten ⟨fun _ => t12, id⟩ [1, 2, 3, 4]).assemble = .frmNew 0x01 0x02 [1, 2, 3, 4] ∧
    unflatten (register [] t12) (flatten ⟨fun _ => t12, id⟩ [1, 2, 3, 4]) = some [1, 2, 3, 4] ∧
    FrameSlot.frame ⟨true, 1, 2, [3], none, none⟩ = some ⟨1, 2, [3]⟩ ∧ FrameSlot.frame State.reset.frm = none := by decide

-- 30_encoding.md R85 and V-PW-14, V-CKS-12
theorem test_assembler_text :
    asmText (.pwPokeBytes (-3) [0xAA, 0xBB]) = "PW.POKE.BYTES -3, [AA BB]" ∧ asmText (.cksUpdate16 0x1234) = "CKS.UPDATE16 0x1234" ∧
    asmText .txnBuild = "TXN.BUILD" := by
  refine ⟨?_, ?_, ?_⟩ <;> decide

-- 00_scope.md R7, 45_bus_engine.md R240
theorem test_repeated_start_on_the_wire :
    wireCondition (Build.config ⟨.aHigh, 0, 0, true⟩) .rstart = .rstart ∧
    wireCondition (Build.config ⟨.aHigh, 0, 0, false⟩) .rstart = .start ∧
    wireCondition (Build.config ⟨.aHigh, 0, 0, false⟩) .stop = .stop := by decide

/-! ## States and operands that meet the hypotheses of each obligation, at the bounds of every clause -/

theorem test_meets_OpcodeMapDecodesEveryRow :
    ([] : List Byte).length = (0 : Byte).toNat + 256 * (0 : Byte).toNat + 65536 * (0 : Byte).toNat + 16777216 * (0 : Byte).toNat ∧
    (zeroBytes 513).length = (1 : Byte).toNat + 256 * (2 : Byte).toNat + 65536 * (0 : Byte).toNat + 16777216 * (0 : Byte).toNat ∧
    decode ([0xC3, 1, 2, 0, 0] ++ (zeroBytes 513 ++ [0x10])) = .command (.frmDeserialize (zeroBytes 513)) [0x10] := by
  decide +kernel

/-- The two ends of every range of R76 and their legal neighbours. -/
theorem test_meets_IllegalOpcodesRefused :
    (handed [[0x00]]).bus.blocked = none ∧ (handed [[0x00]]).cmdIn = ((0x00 : Byte) :: []) :: [] ∧
    [0x00, 0x0F, 0x14, 0x3F, 0x4E, 0x4F, 0x5E, 0x5F, 0x61, 0x7F, 0x8E, 0x8F, 0x9E, 0x9F, 0xA1, 0xBF, 0xC4, 0xCF, 0xD7, 0xDB, 0xDF, 0xE3,
      0xFF].all illegalOpcode = true ∧
    [0x10, 0x13, 0x40, 0x4D, 0x50, 0x5D, 0x60, 0x80, 0x8D, 0x90, 0x9D, 0xA0, 0xC0, 0xC3, 0xD0, 0xD6, 0xD8, 0xDA, 0xE0,
      0xE2].any illegalOpcode = false := ⟨rfl, rfl, rfl, rfl⟩

theorem test_meets_TruncatedCommandsRefused :
    Instr.wf (.frmDeserialize [7, 8]) = true ∧ 0 < (encode (.frmDeserialize [7, 8])).length ∧
    6 < (encode (.frmDeserialize [7, 8])).length ∧ (encode (.frmDeserialize [7, 8])).take 6 = [0xC3, 2, 0, 0, 0, 7] ∧
    (handed [[0x12, 0x34]]).bus.blocked = none ∧ (handed [[0x12, 0x34]]).cmdIn = [0x12, 0x34] :: [] ∧
    decode [0x12, 0x34] = .truncated ∧ decode [] = .truncated := by decide

theorem test_meets_DecodeOfEncodeIsIdentity :
    Instr.wf (.prNew (List.replicate (2 ^ 32 - 1) 0)) = true ∧ Instr.wf (.prNew []) = true ∧ Instr.wf .tpPoll = true := by
  simp only [Instr.wf, dataFits_limit, true_and, and_true]; rfl

theorem test_meets_EncodeOfDecodeIsIdentity :
    decode [0x60, 2, 0, 0, 0, 7, 8, 0x10] = .command (.prNew [7, 8]) [0x10] ∧ decode [0xE2] = .command .tpPoll [] := ⟨rfl, rfl⟩

theorem test_meets_StepRunsTheDecodedCommand :
    (handed [[0x10, 0x13], [0xE2]]).bus.blocked = none ∧ (handed [[0x10, 0x13], [0xE2]]).cmdIn = [0x10, 0x13] :: [[0xE2]] ∧
    decode [0x10, 0x13] = .command .cksNew [0x13] ∧ decode [0xE2] = .command .tpPoll [] := ⟨rfl, rfl, rfl, rfl⟩

theorem test_meets_IdleAndBlockedSteps :
    State.reset.bus.blocked = none ∧ State.reset.cmdIn = [] ∧
    (after .busOpen (scripted [.never] State.reset)).bus.blocked = some .openPort := ⟨rfl, rfl, rfl⟩

theorem test_meets_ChecksumNewAndGet :
    State.reset.cfg.cksOrder = .aHigh ∧ (State.resetOf ⟨.bHigh, 1, 2, false⟩).cfg.cksOrder = .bHigh := ⟨rfl, rfl⟩

theorem test_meets_ChecksumClosedForm :
    (State.reset.withCks ⟨9, 9⟩).cfg.cksInitA = 0 ∧ (State.reset.withCks ⟨9, 9⟩).cfg.cksInitB = 0 ∧
    exec .cksNew (State.reset.withCks ⟨9, 9⟩) = .next ((State.reset.withCks ⟨0, 0⟩).withResult (some .ok)) ∧
    weightedSum [1, 2, 3] = 0x0A ∧ plainSum [1, 2, 3] = 0x06 ∧ ([] : List Byte) = [] ∧ ([1, 2, 3] : List Byte) ≠ [] :=
  ⟨rfl, rfl, rfl, rfl, rfl, rfl, by decide⟩

theorem lengths_at_the_limit :
    (List.replicate (2 ^ 31 - 1) (0 : Byte)).length < 2 ^ 31 ∧ 2 ^ 31 ≤ (List.replicate (2 ^ 31) (0 : Byte)).length := by
  rw [List.length_replicate, List.length_replicate]; omega

theorem test_meets_ReaderNewBindsACopy :
    ([] : List Byte).length < 2 ^ 31 ∧ (List.replicate (2 ^ 31 - 1) (0 : Byte)).length < 2 ^ 31 ∧
    2 ^ 31 ≤ (List.replicate (2 ^ 31) (0 : Byte)).length := ⟨by decide, lengths_at_the_limit.1, lengths_at_the_limit.2⟩

theorem test_meets_PeekOneByteFields :
    (reading ex 0).pr.valid = true ∧ offsetIs 0 (reading ex 0).pr.buf.length 0 ∧ (reading ex 0).pr.buf[0]? = some 0x80 ∧
    offsetIs (-8) (reading ex 0).pr.buf.length 0 ∧ offsetIs (-1) (reading ex 0).pr.buf.length 7 ∧
    (reading ex 0).pr.buf[7]? = some 0x07 := by unfold offsetIs; decide

theorem test_meets_PeekTwoByteFields :
    (reading ex 0).pr.valid = true ∧ offsetIs 6 (reading ex 0).pr.buf.length 6 ∧ offsetIs (-8) (reading ex 0).pr.buf.length 0 ∧
    (reading ex 0).pr.buf[6]? = some 0x06 ∧ (reading ex 0).pr.buf[6 + 1]? = some 0x07 := by unfold offsetIs; decide

theorem test_meets_PeekFourByteFields :
    (reading ex 0).pr.valid = true ∧ offsetIs (-4) (reading ex 0).pr.buf.length 4 ∧ (reading ex 0).pr.buf[4]? = some 0xFE ∧
    (reading ex 0).pr.buf[4 + 1]? = some 0x7F ∧ (reading ex 0).pr.buf[4 + 2]? = some 0x06 ∧
    (reading ex 0).pr.buf[4 + 3]? = some 0x07 := by unfold offsetIs; decide

theorem test_meets_PeekEightByteField :
    (reading ex 0).pr.valid = true ∧ offsetIs (-8) (reading ex 0).pr.buf.length 0 ∧
    ((reading ex 0).pr.buf.drop 0).take 8 = [0x80, 0x01, 0x02, 0xFF, 0xFE, 0x7F, 0x06, 0x07] := by unfold offsetIs; decide

theorem test_meets_ReadScalarFieldsAdvanceTheCursor :
    (reading ex 7).pr.valid = true ∧ (reading ex 7).pr.buf[(reading ex 7).pr.cur]? = some 0x07 ∧
    (reading ex 6).pr.buf[(reading ex 6).pr.cur]? = some 0x06 ∧ (reading ex 6).pr.buf[(reading ex 6).pr.cur + 1]? = some 0x07 ∧
    (reading ex 4).pr.buf[(reading ex 4).pr.cur]? = some 0xFE ∧ (reading ex 4).pr.buf[(reading ex 4).pr.cur + 1]? = some 0x7F ∧
    (reading ex 4).pr.buf[(reading ex 4).pr.cur + 2]? = some 0x06 ∧ (reading ex 4).pr.buf[(reading ex 4).pr.cur + 3]? = some 0x07 ∧
    ((reading ex 0).pr.buf.drop (reading ex 0).pr.cur).take 8 = [0x80, 0x01, 0x02, 0xFF, 0xFE, 0x7F, 0x06, 0x07] := by decide

theorem test_meets_PeekAndReadBytesCopyASubArray :
    ((reading ex 8).pr.valid = true ∧ (0 : Word32).toNat < 2 ^ 31 ∧ (reading ex 8).pr.buf = ex ++ [] ++ [] ∧
      ([] : List Byte).length = (0 : Word32).toNat ∧ offsetIs 8 (reading ex 8).pr.buf.length ex.length ∧
      (reading ex 8).pr.cur = ex.length) ∧
    ((reading ex 0).pr.buf = [] ++ ex ++ [] ∧ ex.length = (8 : Word32).toNat ∧
      offsetIs (-8) (reading ex 0).pr.buf.length ([] : List Byte).length ∧ (reading ex 0).pr.cur = ([] : List Byte).length) ∧
    (offsetBad 9 (reading ex 0).pr.buf.length (0 : Word32).toNat ∧ offsetBad 6 (reading ex 0).pr.buf.length (3 : Word32).toNat ∧
      offsetBad (-9) (reading ex 0).pr.buf.length (1 : Word32).toNat ∧
      (reading ex 6).pr.buf.length < (reading ex 6).pr.cur + (3 : Word32).toNat) ∧
    ((0x7FFFFFFF : Word32).toNat < 2 ^ 31 ∧ 2 ^ 31 ≤ (0x80000000 : Word32).toNat) := by unfold offsetIs offsetBad; decide

theorem test_meets_ReaderOutOfRangeFaults :
    (reading ex 0).pr.valid = true ∧
    offsetBad 8 (reading ex 0).pr.buf.length 1 ∧ offsetBad (-9) (reading ex 0).pr.buf.length 1 ∧
    offsetBad 7 (reading ex 0).pr.buf.length 2 ∧ offsetBad (-1) (reading ex 0).pr.buf.length 2 ∧
    offsetBad 5 (reading ex 0).pr.buf.length 4 ∧ offsetBad (-3) (reading ex 0).pr.buf.length 4 ∧
    offsetBad 1 (reading ex 0).pr.buf.length 8 ∧ offsetBad (-7) (reading ex 0).pr.buf.length 8 ∧
    (reading ex 8).pr.buf.length < (reading ex 8).pr.cur + 1 ∧ (reading ex 7).pr.buf.length < (reading ex 7).pr.cur + 2 ∧
    (reading ex 5).pr.buf.length < (reading ex 5).pr.cur + 4 ∧ (reading ex 1).pr.buf.length < (reading ex 1).pr.cur + 8 := by
  unfold offsetBad; decide

theorem test_meets_NegativeOffsetNamesTheSameField :
    (reading ex 0).pr.valid = true ∧ (reading ex 0).pr.buf.length < 2 ^ 31 ∧
    (7 < (reading ex 0).pr.buf.length ∧ 7 + 1 ≤ (reading ex 0).pr.buf.length) ∧
    (6 + 2 ≤ (reading ex 0).pr.buf.length ∧ (reading ex 0).pr.buf.length < 7 + 2) ∧
    (4 + 4 ≤ (reading ex 0).pr.buf.length ∧ (reading ex 0).pr.buf.length < 5 + 4) ∧
    (0 + 8 ≤ (reading ex 0).pr.buf.length ∧ (reading ex 0).pr.buf.length < 1 + 8) := by decide

theorem test_meets_WriterNewIsZeroed :
    (0 : Word32).toNat < 2 ^ 31 ∧ (0x7FFFFFFF : Word32).toNat < 2 ^ 31 ∧ 2 ^ 31 ≤ (0x80000000 : Word32).toNat := by decide

theorem test_meets_PokeScalarFieldsStoreTheirBytes :
    (writing ex 0).pw.valid = true ∧
    (offsetIs (-1) (writing ex 0).pw.buf.length 7 ∧ 7 + 1 ≤ (writing ex 0).pw.buf.length) ∧
    (offsetIs 6 (writing ex 0).pw.buf.length 6 ∧ 6 + 2 ≤ (writing ex 0).pw.buf.length) ∧
    (offsetIs (-4) (writing ex 0).pw.buf.length 4 ∧ 4 + 4 ≤ (writing ex 0).pw.buf.length) ∧
    (offsetIs (-8) (writing ex 0).pw.buf.length 0 ∧ 0 + 8 ≤ (writing ex 0).pw.buf.length) := by unfold offsetIs; decide

theorem test_meets_WriteScalarFieldsStoreAndAdvance :
    (writing ex 7).pw.valid = true ∧ (writing ex 7).pw.cur + 1 ≤ (writing ex 7).pw.buf.length ∧
    (writing ex 6).pw.cur + 2 ≤ (writing ex 6).pw.buf.length ∧ (writing ex 4).pw.cur + 4 ≤ (writing ex 4).pw.buf.length ∧
    (writing ex 0).pw.cur + 8 ≤ (writing ex 0).pw.buf.length := by decide

theorem test_meets_PokeAndWriteBytesStoreASubArray :
    (writing ex 8).pw.valid = true ∧ ([] : List Byte).length < 2 ^ 31 ∧
    (offsetIs 8 (writing ex 8).pw.buf.length 8 ∧ 8 + ([] : List Byte).length ≤ (writing ex 8).pw.buf.length) ∧
    (offsetIs (-8) (writing ex 0).pw.buf.length 0 ∧ 0 + ex.length ≤ (writing ex 0).pw.buf.length) ∧
    (writing ex 8).pw.cur + ([] : List Byte).length ≤ (writing ex 8).pw.buf.length ∧
    offsetBad 7 (writing ex 8).pw.buf.length [0xAA, 0xBB].length ∧ offsetBad (-9) (writing ex 8).pw.buf.length [0xAA].length ∧
    (writing ex 7).pw.buf.length < (writing ex 7).pw.cur + [0xAA, 0xBB].length ∧
    2 ^ 31 ≤ (List.replicate (2 ^ 31) (0 : Byte)).length := by
  refine ⟨by decide, by decide, ?_, ?_, by decide, ?_, ?_, by decide, lengths_at_the_limit.2⟩ <;>
    first | (unfold offsetIs; decide) | (unfold offsetBad; decide)

theorem test_meets_WriterOutOfRangeFaults :
    (writing ex 0).pw.valid = true ∧
    offsetBad 8 (writing ex 0).pw.buf.length 1 ∧ offsetBad (-9) (writing ex 0).pw.buf.length 1 ∧
    offsetBad 7 (writing ex 0).pw.buf.length 2 ∧ offsetBad (-1) (writing ex 0).pw.buf.length 2 ∧
    offsetBad 5 (writing ex 0).pw.buf.length 4 ∧ offsetBad (-3) (writing ex 0).pw.buf.length 4 ∧
    offsetBad 1 (writing ex 0).pw.buf.length 8 ∧ offsetBad (-7) (writing ex 0).pw.buf.length 8 ∧
    (writing ex 8).pw.buf.length < (writing ex 8).pw.cur + 1 ∧ (writing ex 7).pw.buf.length < (writing ex 7).pw.cur + 2 ∧
    (writing ex 5).pw.buf.length < (writing ex 5).pw.cur + 4 ∧ (writing ex 1).pw.buf.length < (writing ex 1).pw.cur + 8 := by
  unfold offsetBad; decide

theorem test_meets_WriterAndReaderAreInverse :
    (writing ex 0).pw.valid = true ∧ (writing ex 0).pw.buf.length < 2 ^ 31 ∧
    (offsetIs (-1) (writing ex 0).pw.buf.length 7 ∧ 7 + 1 ≤ (writing ex 0).pw.buf.length) ∧
    (offsetIs 6 (writing ex 0).pw.buf.length 6 ∧ 6 + 2 ≤ (writing ex 0).pw.buf.length) ∧
    (offsetIs (-4) (writing ex 0).pw.buf.length 4 ∧ 4 + 4 ≤ (writing ex 0).pw.buf.length) ∧
    (offsetIs (-8) (writing ex 0).pw.buf.length 0 ∧ 0 + 8 ≤ (writing ex 0).pw.buf.length) := by unfold offsetIs; decide

theorem test_meets_SerializedFrameLayout :
    ([] : List Byte).length ≤ 65535 ∧ (List.replicate 65535 (0 : Byte)).length ≤ 65535 ∧ 1 < [7, 8].length := by
  rw [List.length_replicate]; decide

/-- A block built with B_HIGH and `CKS_INIT` (1, 2). -/
def otherBuild : Build := ⟨.bHigh, 1, 2, false⟩

theorem test_meets_ParseAndSerializeAreInverse :
    (List.replicate 65535 (0 : Byte)).length ≤ 65535 ∧ parseFrame Build.specDefault.config frm1 = some ⟨0x0A, 0x04, [], 0x0E34⟩ ∧
    parseFrame otherBuild.config (serFrame otherBuild.config 3 4 [5]) =
      some ⟨3, 4, [5], cksOver otherBuild.config (frameBody 3 4 [5])⟩ := by
  rw [List.length_replicate]; decide

theorem test_meets_OneChangedByteIsAlwaysCaught :
    (parseFrame Build.specDefault.config frm1).isSome = true ∧ 0 < frm1.length ∧ 7 < frm1.length ∧ frm1[0]? ≠ some 0xB4 ∧
    frm1[7]? ≠ some 0x35 ∧ frm1[4]? ≠ some 1 := by decide

theorem test_meets_FrameNewChecksThePayloadLength :
    (List.replicate 65535 (0 : Byte)).length ≤ 65535 ∧ 65536 ≤ (List.replicate 65536 (0 : Byte)).length ∧
    65536 ≤ (List.replicate (2 ^ 31 - 1) (0 : Byte)).length ∧ (List.replicate (2 ^ 31 - 1) (0 : Byte)).length < 2 ^ 31 ∧
    2 ^ 31 ≤ (List.replicate (2 ^ 31) (0 : Byte)).length := by
  simp only [List.length_replicate]; omega

/-- A frame slot as its constructor leaves it, and one with both memo fields set. -/
theorem test_meets_SerializeAndChecksumMemoize :
    (framed 0x0A 0x04 []).frm.valid = true ∧ frameOk Build.specDefault.config (framed 0x0A 0x04 []).frm ∧
    frameOk Build.specDefault.config ⟨true, 0x0A, 0x04, [], some frm1, some 0x0E34⟩ ∧
    frameOk Build.specDefault.config ⟨true, 0x0A, 0x04, [], none, some 0x0E34⟩ ∧
    exec .frmSerialize (framed 0x0A 0x04 []) = .next (after .frmSerialize (framed 0x0A 0x04 [])) ∧
    exec .frmChecksum (framed 0x0A 0x04 []) = .next (after .frmChecksum (framed 0x0A 0x04 [])) := by
  refine ⟨rfl, ⟨by decide, nofun, nofun, nofun⟩, ⟨by decide, ?_, ?_, fun _ => rfl⟩, ⟨by decide, nofun, ?_, nofun⟩, rfl, rfl⟩
  all_goals (intro x h; cases h; rfl)

theorem not_a_frame (b : List Byte) (h : b.length < 8) (c i : Byte) (p : List Byte) : b ≠ serFrame Build.specDefault.config c i p := by
  intro e
  have := congrArg List.length e
  simp [serFrame, frameBody] at this; omega

theorem test_meets_DeserializeLoadsOrEmptiesTheSlot :
    (List.replicate 65535 (0 : Byte)).length ≤ 65535 ∧ ([0xB5] : List Byte).length < 2 ^ 31 ∧
    (∀ (c i : Byte) (p : List Byte), p.length ≤ 65535 → [0xB5] ≠ serFrame Build.specDefault.config c i p) ∧
    2 ^ 31 ≤ (List.replicate (2 ^ 31) (0 : Byte)).length :=
  ⟨by rw [List.length_replicate], by decide, fun c i p _ => not_a_frame _ (by decide) c i p, lengths_at_the_limit.2⟩

theorem test_meets_BuilderCommandsComplete :
    (building t3 (some 0x42)).tb.valid = true ∧ (0x7F : Byte).toNat = (0x7F : Addr).toNat ∧ (0 : Byte).toNat = (0 : Addr).toNat ∧
    (List.replicate (2 ^ 31 - 1) (0 : Byte)).length < 2 ^ 31 ∧ (0x7FFFFFFF : Word32).toNat < 2 ^ 31 ∧
    (building t3 (some 0x42)).tb.dflt = some 0x42 := ⟨rfl, rfl, rfl, lengths_at_the_limit.1, by decide, rfl⟩

theorem test_meets_AddressAbove127IsRefused :
    127 < (128 : Byte).toNat ∧ 127 < (255 : Byte).toNat ∧ (building [] none).tb.valid = true ∧ (127 : Byte).toNat ≤ 127 ∧
    ([] : List Byte).length < 2 ^ 31 ∧ (0x7FFFFFFF : Word32).toNat < 2 ^ 31 := by decide

theorem test_meets_BuiltTransactionKeepsInsertionOrder :
    ∀ g ∈ t3, g.data.length < 2 ^ 31 ∧ (g.dir = .read → g.data = List.replicate g.data.length 0) := by decide

theorem test_meets_OpenAndCloseCallTheDriver :
    (scripted [.returns true 5, yes] State.reset).bus.script = .returns true 5 :: [yes] ∧
    (scripted [.fails] State.reset).bus.script = .fails :: [] ∧
    (scripted [.never] State.reset).bus.script = .never :: [] := ⟨rfl, rfl, rfl⟩

theorem test_meets_EmptySubmitCallsNothing :
    (submitting [] []).txn.valid = true ∧ (submitting [] []).txn.consumed = false ∧ (submitting [] []).txn.segs = [] :=
  ⟨rfl, rfl, rfl⟩

theorem test_meets_AcknowledgedSubmitRunsEverySegment :
    let s := submitting t3 (ackScript (zeroBytes 13) ++ [nack])
    s.txn.valid = true ∧ s.txn.consumed = false ∧ s.txn.segs ≠ [] ∧ (zeroBytes 13).length = callBound s.txn.segs ∧
    s.bus.script = ackScript (zeroBytes 13) ++ [nack] := by decide

/-- Submits that end in each kind of failure, the last byte of a segment and the stop itself included, and one whose stop does not
return. -/
theorem test_meets_StopIsCalledOnceAndLast :
    t3 ≠ [] ∧ (submitting t3 []).bus.blocked = none ∧
    (engineSubmit t3 (submitting t3 [yes, yes, yes, nack, yes]).bus).2.2.blocked = none ∧
    (engineSubmit t3 (submitting t3 [yes, yes, yes, nack, yes]).bus).1 = .fault (.nackDataWrite 0x03 0 1) ∧
    (engineSubmit t3 (submitting t3 [yes, yes, yes, yes, yes, nack, .fails]).bus).1 = .fault (.nackAddress 0x04) ∧
    (engineSubmit t3 (submitting t3 [.fails, yes]).bus).1 = .fault (.driverFault .start) ∧
    (engineSubmit t3 (submitting t3 (ackScript (zeroBytes 12) ++ [.fails])).bus).1 = .fault (.driverFault .stop) ∧
    (engineSubmit t3 (submitting t3 [yes, nack, .never]).bus).2.2.blocked ≠ none := by decide

/-- A Read segment not reached, and one whose second byte fails: what was not received is still zero. -/
theorem test_meets_EngineKeepsTheSegmentList :
    engineSubmit t3 (submitting t3 [yes, nack, yes]).bus =
      (.fault (.nackAddress 0x03), t3, (engineSubmit t3 (submitting t3 [yes, nack, yes]).bus).2.2) ∧
    t3[2]? = some ⟨.read, 0x04, [0]⟩ ∧
    (engineSubmit [⟨.read, 0x04, [0, 0, 0]⟩] (submitting [] [yes, yes, .returns true 0x5A, .fails, yes]).bus).2.1 =
      [⟨.read, 0x04, [0x5A, 0, 0]⟩] ∧
    receivedIn 0 0 [.s, .a 0x04 true true, .r true 0x5A, .x .rbyte, .p] = [0x5A] ∧
    [0, 0, 0] = List.replicate [(0 : Byte), 0, 0].length 0 := by decide

theorem test_meets_FirstAddressNackAbortsWithAStop :
    (submitting t3 [yes, nack, yes]).txn = ⟨true, t3, false⟩ ∧
    (submitting t3 [yes, nack, yes]).bus.script = .returns true 0 :: .returns false 0 :: .returns true 0 :: [] ∧
    (submitting t3 [yes, nack, yes]).bus.trace = [] := ⟨rfl, rfl, rfl⟩

theorem test_meets_ThreeSegmentExample :
    (submitting t3 (ackScript [0, 0, 0, 0, 0, 0, 0, 0, 0, 0, 0, 0x5A, 0] ++ [nack])).txn =
      ⟨true, [⟨.write, 0x03, [0x40, 0x41]⟩, ⟨.write, 0x04, [0x01, 0x02, 0x03]⟩, ⟨.read, 0x04, [0x00]⟩], false⟩ ∧
    (submitting t3 (ackScript [0, 0, 0, 0, 0, 0, 0, 0, 0, 0, 0, 0x5A, 0] ++ [nack])).bus.script =
      ackScript [0, 0, 0, 0, 0, 0, 0, 0, 0, 0, 0, 0x5A, 0] ++ [nack] := ⟨rfl, rfl⟩

theorem test_meets_ASubmitConsumesItsTransaction :
    (submitting t3 [.never]).txn.valid = true ∧ (submitting t3 [.never]).txn.consumed = false ∧
    engineSubmit (submitting t3 [.never]).txn.segs (submitting t3 [.never]).bus =
      (.blocked, t3, (engineSubmit t3 (submitting t3 [.never]).bus).2.2) ∧
    (State.reset.withTxn ⟨true, t3, true⟩).txn.valid = true ∧ (State.reset.withTxn ⟨true, t3, true⟩).txn.consumed = true :=
  ⟨rfl, rfl, rfl, rfl, rfl⟩

theorem test_meets_TransportConfigSetsBothRegisters :
    (127 : Byte).toNat = (127 : Addr).toNat ∧ (0 : Byte).toNat = (0 : Addr).toNat := ⟨rfl, rfl⟩

/-- The state of V-TP-1. -/
def sending (script : List DrvAnswer) : State := (polling 4096 script).withFrm ⟨true, 0x0A, 0x04, [], none, none⟩

theorem test_meets_SendWritesTheFrameInOneSegment :
    let s := sending (ackScript (zeroBytes 11) ++ [nack])
    s.tp.addrValid = true ∧ s.frm.valid = true ∧ frameOk Build.specDefault.config s.frm ∧
    (zeroBytes 11).length = s.frm.payload.length + 11 ∧ s.bus.script = ackScript (zeroBytes 11) ++ [nack] :=
  ⟨rfl, rfl, ⟨by decide, nofun, nofun, nofun⟩, rfl, rfl⟩

theorem test_meets_PollWithoutDataIsAbsent :
    (polling 4096 (pollScript 0 [0, 0] ++ [])).tp.addrValid = true ∧
    (polling 4096 (pollScript 0 [0, 0] ++ [])).bus.script = pollScript 0 [0, 0] ++ [] ∧
    (0 : Byte).toNat + 256 * (0 : Byte).toNat = 0 ∧
    (polling 4096 (pollScript 0 [1, 0x10] ++ [])).tp.ceiling.toNat < (1 : Byte).toNat + 256 * (0x10 : Byte).toNat := by decide

/-- A count equal to the ceiling; data that is a frame, and data of one byte that is none. -/
theorem test_meets_PollHandsTheDataToTheCodec :
    let s := polling 8 (pollScript 0 [8, 0] ++ pollScript 0 frm1 ++ [])
    s.tp.addrValid = true ∧ s.bus.script = pollScript 0 [8, 0] ++ pollScript 0 frm1 ++ [] ∧
    frm1.length = (8 : Byte).toNat + 256 * (0 : Byte).toNat ∧ 0 < frm1.length ∧ frm1.length ≤ s.tp.ceiling.toNat ∧
    ([] : List Byte).length ≤ 65535 ∧ frm1 = serFrame Build.specDefault.config 0x0A 0x04 [] ∧
    (∀ (c i : Byte) (p : List Byte), p.length ≤ 65535 → [0xFF] ≠ serFrame Build.specDefault.config c i p) :=
  ⟨rfl, rfl, rfl, by decide, by decide, by decide, rfl, fun c i p _ => not_a_frame _ (by decide) c i p⟩

/-- A fault in the transaction of a send, in the first and in the second of a poll; and a command that ends so. -/
theorem test_meets_TransportTranslatesEngineFaults :
    ((sending [yes, nack, yes]).tp.addrValid = true ∧ (sending [yes, nack, yes]).frm.valid = true ∧
      (engineSubmit [⟨.write, (sending [yes, nack, yes]).tp.addr, (memoize Build.specDefault.config (sending [yes, nack, yes]).frm).ser.getD []⟩]
        (sending [yes, nack, yes]).bus).1 = .fault (.nackAddress 0x42)) ∧
    (engineSubmit [⟨.write, 0x42, [0xFC]⟩, ⟨.read, 0x42, [0, 0]⟩] (polling 8 [yes, yes, .fails, yes]).bus).1 =
      .fault (.driverFault .wbyte) ∧
    ((engineSubmit [⟨.write, 0x42, [0xFC]⟩, ⟨.read, 0x42, [0, 0]⟩]
        (polling 8 (pollScript 0 [8, 0] ++ [yes, yes, nack, yes])).bus) =
        (.ok, [⟨.write, 0x42, [0xFC]⟩, ⟨.read, 0x42, [8, 0]⟩],
          (engineSubmit [⟨.write, 0x42, [0xFC]⟩, ⟨.read, 0x42, [0, 0]⟩]
            (polling 8 (pollScript 0 [8, 0] ++ [yes, yes, nack, yes])).bus).2.2) ∧
      0 < (8 : Byte).toNat + 256 * (0 : Byte).toNat ∧
      (8 : Byte).toNat + 256 * (0 : Byte).toNat ≤ (polling 8 []).tp.ceiling.toNat ∧
      (engineSubmit [⟨.write, 0x42, [0xFF]⟩, ⟨.read, 0x42, List.replicate 8 0⟩]
        (engineSubmit [⟨.write, 0x42, [0xFC]⟩, ⟨.read, 0x42, [0, 0]⟩]
          (polling 8 (pollScript 0 [8, 0] ++ [yes, yes, nack, yes])).bus).2.2).1 = .fault (.nackDataWrite 0x42 0 0)) ∧
    ((polling 8 [yes, nack, yes]).bus.blocked = none ∧
      resultOf .tpPoll (polling 8 [yes, nack, yes]) = some (.fault (.transportUnreachable (.nackAddress 0x42)))) :=
  ⟨⟨rfl, rfl, rfl⟩, rfl, ⟨rfl, by decide, by decide, rfl⟩, rfl, rfl⟩

theorem test_meets_UseBeforeConstructionIsRefused :
    State.reset.pr.valid = false ∧ State.reset.pw.valid = false ∧ State.reset.frm.valid = false ∧
    (polling 0 []).frm.valid = false ∧ (polling 0 []).tp.addrValid = true ∧ State.reset.tb.valid = false ∧
    State.reset.txn.valid = false ∧ State.reset.tp.addrValid = false ∧ (building [] none).tb.valid = true ∧
    (building [] none).tb.dflt = none := ⟨rfl, rfl, rfl, rfl, rfl, rfl, rfl, rfl, rfl, rfl⟩

theorem test_meets_RefusedCommandsChangeNothing :
    exec .txnBuild State.reset = .next (after .txnBuild State.reset) ∧
    (after .txnBuild State.reset).result = some (.refused .noObject) := ⟨rfl, rfl⟩

/-- A state with a command handed over meets the invariant, and its step answers a next state. -/
theorem test_meets_EveryStepKeepsBuffersAndMemo :
    slotsOk (handed [[0xA0, 2, 0, 0, 0]]) ∧
    step (handed [[0xA0, 2, 0, 0, 0]]) = .next ((State.reset.withPw ⟨true, [0, 0], 0⟩).withResult (some .ok)) :=
  ⟨⟨by unfold readerOk; decide, by unfold writerOk; decide, nofun, nofun, by decide, nofun, nofun, nofun⟩, rfl⟩

theorem test_meets_EveryStepStopsWhatItStarts :
    busOk (scripted [.never] (handed [[0xD8]])) ∧
    step (scripted [.never] (handed [[0xD8]])) = .next (State.reset.withBus { State.reset.bus with blocked := some .openPort }) :=
  ⟨⟨fun _ => ⟨rfl, rfl⟩, by unfold startsStopped; decide⟩, rfl⟩

theorem frame_too_long (s : State) : resultOf (.frmNew 1 7 (List.replicate 65536 0)) s = some (.fault (.frameTooLong 65536)) := by
  simp only [resultOf, after, exec, execFrmNew, frmNewOp, List.length_replicate]; rfl

theorem test_meets_FaultsOfThePackedAndFrameUnitsChangeNothing :
    exec (.prPeekU8 8) (reading ex 0) = .next (after (.prPeekU8 8) (reading ex 0)) ∧
    (after (.prPeekU8 8) (reading ex 0)).result = some (.fault (.boundsError 8 1)) ∧
    resultOf (.frmNew 1 7 (List.replicate 65536 0)) State.reset = some (.fault (.frameTooLong 65536)) :=
  ⟨rfl, rfl, frame_too_long _⟩

theorem test_meets_LastRegistrationWins : (0x06 : Byte) ≠ 0x01 ∨ (0x02 : Byte) ≠ 0x02 := by decide

theorem test_meets_PseudoInstructionsExpand :
    State.reset.tb.valid = false ∧ (building [] none).tb.valid = true ∧
    exec .txnBuild (building [] none) = .next (after .txnBuild (building [] none)) ∧
    exec .busSubmit (after .txnBuild (building [] none)) = .next (after .busSubmit (after .txnBuild (building [] none))) ∧
    65535 < (List.replicate 65536 (0 : Byte)).length ∧ (List.replicate 65536 (0 : Byte)).length < 2 ^ 31 ∧
    (List.replicate 65535 (0 : Byte)).length ≤ 65535 ∧
    exec (.frmNew 1 2 []) (polling 8 [yes, nack, yes]) = .next (after (.frmNew 1 2 []) (polling 8 [yes, nack, yes])) ∧
    exec .tpSend (after (.frmNew 1 2 []) (polling 8 [yes, nack, yes])) =
      .next (after .tpSend (after (.frmNew 1 2 []) (polling 8 [yes, nack, yes]))) := by
  simp only [List.length_replicate]
  exact ⟨rfl, rfl, rfl, rfl, by decide, by decide, by decide, rfl, rfl⟩

end Sys2Proof.Tests
end

section
/-! PROOFS of the statements about the scope of the block (00_scope.md): what a refusal leaves unchanged (R10), and the checksum
accumulator for every build (R7). -/

namespace Sys2Proof.Machine

/-! ## Results that are no refusal, and refusals that change nothing -/

/-- The result is not a refusal: what every operation has in common once its checks have passed. -/
def State.Unrefused (t : State) : Prop := ∀ r, t.result ≠ some (.refused r)

/-- Where `t` ends in a refusal, it is `s` with that result (00_scope.md R10, 60_exceptions.md R283). -/
def RefusesUnchanged (s t : State) : Prop := ∀ r, t.result = some (.refused r) → t = s.withResult (some (.refused r))

@[simp] theorem State.unrefused_withResult (t : State) (v : Option Result) :
    (t.withResult v).Unrefused ↔ ∀ r, v ≠ some (.refused r) := Iff.rfl

theorem State.Unrefused.refusesUnchanged {s t : State} (h : t.Unrefused) : RefusesUnchanged s t :=
  fun r hr => absurd hr (h r)

/-- A command that changes nothing but the result refuses unchanged, whatever its result. -/
theorem refusesUnchanged_withResult (s : State) (v : Option Result) : RefusesUnchanged s (s.withResult v) :=
  fun _ hr => congrArg s.withResult hr

theorem refusesUnchanged_ok (s t : State) : RefusesUnchanged s t.ok :=
  State.Unrefused.refusesUnchanged (by simp)

theorem refusesUnchanged_okValue (s t : State) (v : Value) : RefusesUnchanged s (t.okValue v) :=
  State.Unrefused.refusesUnchanged (by simp)

/-! ## The checks before a command runs -/

theorem refusesUnchanged_needObject {valid : Bool} {s : State} {k : State → State} (h : RefusesUnchanged s (k s)) :
    RefusesUnchanged s (needObject valid s k) := by
  rcases needObject_cases valid s k with ⟨-, e⟩ | ⟨-, e⟩ <;> rw [e]
  · exact h
  · exact refusesUnchanged_withResult s _

theorem refusesUnchanged_needLength {n : Nat} {s : State} {k : State → State} (h : RefusesUnchanged s (k s)) :
    RefusesUnchanged s (needLength n s k) := by
  rcases needLength_cases n s k with ⟨-, e⟩ | ⟨-, e⟩ <;> rw [e]
  · exact h
  · exact refusesUnchanged_withResult s _

theorem refusesUnchanged_needAddress {a : Byte} {s : State} {k : State → State} (h : RefusesUnchanged s (k s)) :
    RefusesUnchanged s (needAddress a s k) := by
  rcases needAddress_cases a s k with ⟨-, e⟩ | ⟨-, e⟩ <;> rw [e]
  · exact h
  · exact refusesUnchanged_withResult s _

theorem refusesUnchanged_needDefault {d : Option Addr} {s : State} {k : Addr → State → State}
    (h : ∀ a, RefusesUnchanged s (k a s)) : RefusesUnchanged s (needDefault d s k) := by
  rcases needDefault_cases d s k with ⟨a, -, e⟩ | ⟨-, e⟩ <;> rw [e]
  · exact h a
  · exact refusesUnchanged_withResult s _

theorem refusesUnchanged_needConfigured {s : State} {k : State → State} (h : RefusesUnchanged s (k s)) :
    RefusesUnchanged s (needConfigured s k) := by
  rcases needConfigured_cases s k with ⟨-, e⟩ | ⟨-, e⟩ <;> rw [e]
  · exact h
  · exact refusesUnchanged_withResult s _

/-! ## The packed reader and writer -/

theorem refusesUnchanged_peekScalar (t : FieldType) (off : Word32) (s : State) : RefusesUnchanged s (peekScalar t off s) := by
  rcases peekScalar_cases t off s with ⟨-, e⟩ | ⟨-, -, e⟩ | ⟨-, -, e⟩ <;> rw [e] <;> exact refusesUnchanged_withResult s _

theorem refusesUnchanged_peekBytes (off n : Word32) (s : State) : RefusesUnchanged s (peekBytes off n s) := by
  rcases peekBytes_cases off n s with ⟨-, e⟩ | ⟨-, -, e⟩ | ⟨-, -, -, e⟩ | ⟨-, -, -, e⟩ <;> rw [e] <;>
    exact refusesUnchanged_withResult s _

theorem refusesUnchanged_readScalar (t : FieldType) (s : State) : RefusesUnchanged s (readScalar t s) := by
  rcases readScalar_cases t s with ⟨-, e⟩ | ⟨-, -, e⟩ | ⟨-, -, e⟩ <;> rw [e]
  · exact refusesUnchanged_withResult s _
  · exact refusesUnchanged_okValue s _ _
  · exact refusesUnchanged_withResult s _

theorem refusesUnchanged_readBytes (n : Word32) (s : State) : RefusesUnchanged s (readBytes n s) := by
  rcases readBytes_cases n s with ⟨-, e⟩ | ⟨-, -, e⟩ | ⟨-, -, -, e⟩ | ⟨-, -, -, e⟩ <;> rw [e]
  · exact refusesUnchanged_withResult s _
  · exact refusesUnchanged_withResult s _
  · exact refusesUnchanged_okValue s _ _
  · exact refusesUnchanged_withResult s _

theorem refusesUnchanged_pokeRaw (off : Word32) (xs : List Byte) (s : State) : RefusesUnchanged s (pokeRaw off xs s) := by
  rcases pokeRaw_cases off xs s with ⟨-, e⟩ | ⟨-, e⟩ <;> rw [e]
  · exact refusesUnchanged_ok s _
  · exact refusesUnchanged_withResult s _

theorem refusesUnchanged_writeRaw (xs : List Byte) (s : State) : RefusesUnchanged s (writeRaw xs s) := by
  rcases writeRaw_cases xs s with ⟨-, e⟩ | ⟨-, e⟩ <;> rw [e]
  · exact refusesUnchanged_ok s _
  · exact refusesUnchanged_withResult s _

theorem refusesUnchanged_pokeScalar (t : FieldType) (off : Word32) (val : Nat) (s : State) :
    RefusesUnchanged s (pokeScalar t off val s) :=
  refusesUnchanged_needObject (refusesUnchanged_pokeRaw off _ s)

theorem refusesUnchanged_writeScalar (t : FieldType) (val : Nat) (s : State) : RefusesUnchanged s (writeScalar t val s) :=
  refusesUnchanged_needObject (refusesUnchanged_writeRaw _ s)

/-! ## The frame slot -/

theorem unrefused_loadFrame (cfg : Config) (raw : List Byte) (s : State) : (loadFrame cfg raw s).Unrefused := by
  rcases loadFrame_cases cfg raw s with ⟨-, e⟩ | ⟨p, -, e⟩ <;> simp [e]

/-- The one fault of `FRM.NEW` is raised from the state as it was; all else it does after its check is `Ok`. -/
theorem refusesUnchanged_frmNewOp (cls id : Byte) (data : List Byte) (s : State) :
    RefusesUnchanged s (frmNewOp cls id data s) := by
  refine refusesUnchanged_needLength ?_
  split
  · exact refusesUnchanged_withResult s _
  · exact refusesUnchanged_ok s _

/-! ## The bus and the transport adapter: a command that has begun to run ends in no refusal -/

theorem unrefused_portCommand (call : Prim) (drv : Bus → CallOut × Bus) (s : State) : (portCommand call drv s).Unrefused := by
  rcases portCommand_cases call drv s with ⟨a, x, b, -, e⟩ | ⟨b, -, e⟩ | ⟨b, -, e⟩ <;> simp [e]

theorem unrefused_submitRun (s : State) : (submitRun s).Unrefused := by
  obtain ⟨o, segs, b, -, e⟩ := submitRun_cases s
  cases o <;> simp [e]

/-- A transaction of the transport adapter adds no refusal to what follows it. -/
theorem unrefused_transact (segs : List Segment) (s : State) {k : List Segment → State → State}
    (hk : ∀ segs t, (k segs t).Unrefused) : (transact segs s k).Unrefused := by
  rcases transact_cases segs s k with ⟨segs', b, -, e⟩ | ⟨f, segs', b, -, e⟩ | ⟨segs', b, -, e⟩ <;> rw [e]
  · exact hk segs' (s.withBus b)
  · simp
  · simp

theorem unrefused_sendOp (s : State) : (sendOp s).Unrefused :=
  unrefused_transact _ _ fun _ t => by simp

theorem unrefused_pollAbsent (s : State) : (pollAbsent s).Unrefused := by simp [pollAbsent]

theorem unrefused_pollRead (count : Nat) (s : State) : (pollRead count s).Unrefused := by
  refine unrefused_transact _ _ fun segs t => ?_
  split
  · exact unrefused_pollAbsent t
  · exact unrefused_loadFrame _ _ t

theorem unrefused_pollOp (s : State) : (pollOp s).Unrefused := by
  refine unrefused_transact _ _ fun segs t => ?_
  split
  · exact unrefused_pollAbsent t
  · exact unrefused_pollRead _ t

theorem refusesUnchanged_submitChecked (s : State) :
    RefusesUnchanged s (if s.txn.consumed then s.refuse .txnConsumed else submitRun s) := by
  split
  · exact refusesUnchanged_withResult s _
  · exact (unrefused_submitRun s).refusesUnchanged

/-! ## Every command -/

/-- Every command answers a next state, and one that refuses has changed nothing. The split follows the shared operations: each command
is its checks, of which each refuses from `s` itself, around an operation that refuses no more. -/
theorem exec_refusesUnchanged (i : Instr) (s : State) : ∃ t, exec i s = .next t ∧ RefusesUnchanged s t := by
  cases i with
  | cksNew | cksUpdate8 | cksUpdate16 => exact ⟨_, rfl, refusesUnchanged_ok s _⟩
  | cksGet => exact ⟨_, rfl, refusesUnchanged_okValue s _ _⟩
  | prPeekU8 | prPeekS8 | prPeekU16LE | prPeekS16LE | prPeekU16BE | prPeekS16BE | prPeekU32LE | prPeekS32LE
  | prPeekU32BE | prPeekS32BE | prPeekF32 | prPeekF64 | prPeekChar => exact ⟨_, rfl, refusesUnchanged_peekScalar _ _ s⟩
  | prPeekBytes => exact ⟨_, rfl, refusesUnchanged_peekBytes _ _ s⟩
  | prReadU8 | prReadS8 | prReadU16LE | prReadS16LE | prReadU16BE | prReadS16BE | prReadU32LE | prReadS32LE
  | prReadU32BE | prReadS32BE | prReadF32 | prReadF64 | prReadChar => exact ⟨_, rfl, refusesUnchanged_readScalar _ s⟩
  | prReadBytes => exact ⟨_, rfl, refusesUnchanged_readBytes _ s⟩
  | prNew | pwNew => exact ⟨_, rfl, refusesUnchanged_needLength (refusesUnchanged_ok s _)⟩
  | pwPokeU8 | pwPokeS8 | pwPokeU16LE | pwPokeS16LE | pwPokeU16BE | pwPokeS16BE | pwPokeU32LE | pwPokeS32LE
  | pwPokeU32BE | pwPokeS32BE | pwPokeF32 | pwPokeF64 | pwPokeChar => exact ⟨_, rfl, refusesUnchanged_pokeScalar _ _ _ s⟩
  | pwPokeBytes =>
    exact ⟨_, rfl, refusesUnchanged_needObject (refusesUnchanged_needLength (refusesUnchanged_pokeRaw _ _ s))⟩
  | pwWriteU8 | pwWriteS8 | pwWriteU16LE | pwWriteS16LE | pwWriteU16BE | pwWriteS16BE | pwWriteU32LE | pwWriteS32LE
  | pwWriteU32BE | pwWriteS32BE | pwWriteF32 | pwWriteF64 | pwWriteChar => exact ⟨_, rfl, refusesUnchanged_writeScalar _ _ s⟩
  | pwWriteBytes => exact ⟨_, rfl, refusesUnchanged_needObject (refusesUnchanged_needLength (refusesUnchanged_writeRaw _ s))⟩
  | frmNew => exact ⟨_, rfl, refusesUnchanged_frmNewOp _ _ _ s⟩
  | frmSerialize | frmChecksum => exact ⟨_, rfl, refusesUnchanged_needObject (refusesUnchanged_okValue s _ _)⟩
  | frmDeserialize => exact ⟨_, rfl, refusesUnchanged_needLength (unrefused_loadFrame _ _ s).refusesUnchanged⟩
  | txnNew => exact ⟨_, rfl, refusesUnchanged_ok s _⟩
  | txnWith => exact ⟨_, rfl, refusesUnchanged_needObject (refusesUnchanged_needAddress (refusesUnchanged_ok s _))⟩
  | txnWrite | txnRead =>
    exact ⟨_, rfl, refusesUnchanged_needObject (refusesUnchanged_needAddress
      (refusesUnchanged_needLength (refusesUnchanged_ok s _)))⟩
  | txnWrited | txnReadd =>
    exact ⟨_, rfl, refusesUnchanged_needObject (refusesUnchanged_needDefault fun _ =>
      refusesUnchanged_needLength (refusesUnchanged_ok s _))⟩
  | txnBuild => exact ⟨_, rfl, refusesUnchanged_needObject (refusesUnchanged_ok s _)⟩
  | busOpen | busClose => exact ⟨_, rfl, (unrefused_portCommand _ _ s).refusesUnchanged⟩
  | busSubmit => exact ⟨_, rfl, refusesUnchanged_needObject (refusesUnchanged_submitChecked s)⟩
  | tpConfig => exact ⟨_, rfl, refusesUnchanged_needAddress (refusesUnchanged_ok s _)⟩
  | tpSend =>
    exact ⟨_, rfl, refusesUnchanged_needConfigured (refusesUnchanged_needObject (unrefused_sendOp s).refusesUnchanged)⟩
  | tpPoll => exact ⟨_, rfl, refusesUnchanged_needConfigured (unrefused_pollOp s).refusesUnchanged⟩

/-- Settles O53: a command refuses only in its checks, and each check refuses from the state the command began in. -/
theorem refusedCommandsChangeNothing : Obligations.RefusedCommandsChangeNothing := by
  intro i s t r hexec hres
  obtain ⟨t', hexec', hrefuses⟩ := exec_refusesUnchanged i s
  obtain rfl : t' = t := Host.Outcome.next.inj (hexec'.symm.trans hexec)
  exact hrefuses r hres

/-! ## The two orders of the checksum (00_scope.md R7, 40_checksum.md R104) -/

theorem cksGet_toNat_of_aHigh {cfg : Config} (h : cfg.cksOrder = .aHigh) (c : Cks) :
    (cksGet cfg c).toNat = c.a.toNat * 256 + c.b.toNat := by
  rw [cksGet, h]
  exact append_toNat c.a c.b

theorem cksGet_toNat_of_bHigh {cfg : Config} (h : cfg.cksOrder = .bHigh) (c : Cks) :
    (cksGet cfg c).toNat = c.b.toNat * 256 + c.a.toNat := by
  rw [cksGet, h]
  exact append_toNat c.b c.a

/-- Settles O11: `CKS.GET` returns the pattern of the build's order, from the state as it is. -/
theorem checksumNewAndGet : Obligations.ChecksumNewAndGet :=
  ⟨exec_cksNew, fun s => ⟨cksGet s.cfg s.cks, exec_cksGet s,
    fun h => cksGet_toNat_of_aHigh h s.cks, fun h => cksGet_toNat_of_bHigh h s.cks⟩⟩

end Sys2Proof.Machine
end

section
/-! PROOFS of the statements about the state (10_state.md), first part: what the bus engine does to the history and to the segments
(R35 to R38), and what every step keeps of the bus side (R37, R244). -/

namespace Sys2Proof.Machine

open Sys2Proof.Claim

/-! ## The letters of a history -/

/-- A letter of a segment after its condition: no start, repeated start or stop, and no failure of one. -/
def isInner : BusEvent → Bool
  | .a _ _ _ | .w _ _ | .r _ _ | .x .addr | .x .wbyte | .x .rbyte => true
  | _ => false

/-- The bytes that the byte reads among some letters answered. -/
def bytesRead (es : List BusEvent) : List Byte := es.filterMap fun | .r _ x => some x | _ => none

@[simp] theorem bytesRead_nil : bytesRead [] = [] := rfl
@[simp] theorem bytesRead_cons_a (addr : Addr) (isRead ack : Bool) (es : List BusEvent) :
    bytesRead (.a addr isRead ack :: es) = bytesRead es := rfl
@[simp] theorem bytesRead_cons_w (x : Byte) (ack : Bool) (es : List BusEvent) : bytesRead (.w x ack :: es) = bytesRead es := rfl
@[simp] theorem bytesRead_cons_r (ackNext : Bool) (x : Byte) (es : List BusEvent) :
    bytesRead (.r ackNext x :: es) = x :: bytesRead es := rfl
@[simp] theorem bytesRead_cons_x (call : Prim) (es : List BusEvent) : bytesRead (.x call :: es) = bytesRead es := rfl
@[simp] theorem bytesRead_cons_condition (k : Nat) (es : List BusEvent) :
    bytesRead ((if k = 0 then .s else .sr) :: es) = bytesRead es := by
  split <;> rfl

@[simp] theorem callCount_nil (p : BusEvent → Bool) : callCount p [] = 0 := rfl

@[simp] theorem callCount_append (p : BusEvent → Bool) (xs ys : List BusEvent) :
    callCount p (xs ++ ys) = callCount p xs + callCount p ys := by
  simp [callCount]

theorem callCount_cons (p : BusEvent → Bool) (e : BusEvent) (es : List BusEvent) :
    callCount p (e :: es) = (if p e then 1 else 0) + callCount p es := by
  cases h : p e <;> simp [callCount, h, Nat.add_comm]

/-- An inner letter is no condition. -/
theorem isInner_no_condition {e : BusEvent} (h : isInner e = true) :
    isStartCall e = false ∧ isStopCall e = false ∧ e ≠ .sr := by
  cases e with
  | x call => cases call <;> simp_all [isInner, isStartCall, isStopCall]
  | _ => simp_all [isInner, isStartCall, isStopCall]

theorem callCount_inner {es : List BusEvent} (h : ∀ e ∈ es, isInner e = true) :
    callCount isStartCall es = 0 ∧ callCount isStopCall es = 0 := by
  constructor
  · simpa [callCount] using fun e he => (isInner_no_condition (h e he)).1
  · simpa [callCount] using fun e he => (isInner_no_condition (h e he)).2.1

/-! ## What a loop of the engine adds to the history -/

/-- From `b` to `b'` the history gains the letters `es`, and only a loop that ended blocked leaves a call outstanding. -/
structure LoopGains (b : Bus) (o : LoopOut) (b' : Bus) (es : List BusEvent) : Prop where
  trace : b'.trace = b.trace ++ es
  blocked : o = .blocked → b'.blocked ≠ none
  free : o ≠ .blocked → b'.blocked = b.blocked

theorem LoopGains.nothing (b : Bus) {o : LoopOut} (h : o ≠ .blocked) : LoopGains b o b [] :=
  ⟨by simp, fun e => absurd e h, fun _ => rfl⟩

/-- A call that failed or was not acknowledged leaves its letter. -/
theorem LoopGains.failed {b b₁ : Bus} (ht : b₁.trace = b.trace) (hb : b₁.blocked = b.blocked) (f : BusFault) (e : BusEvent) :
    LoopGains b (.failed f) (b₁.record e) [e] :=
  ⟨by simp [ht], nofun, fun _ => hb⟩

/-- A call that has not returned leaves no letter (log 4). -/
theorem LoopGains.stuck {b b₁ : Bus} (ht : b₁.trace = b.trace) (call : Prim) : LoopGains b .blocked (b₁.block call) [] :=
  ⟨by simp [ht], fun _ => by simp, fun h => absurd rfl h⟩

/-- A call that returned leaves its letter before those of the rest. -/
theorem LoopGains.cons {b b₁ b' : Bus} {o : LoopOut} {e : BusEvent} {es : List BusEvent} (ht : b₁.trace = b.trace)
    (hb : b₁.blocked = b.blocked) (h : LoopGains (b₁.record e) o b' es) : LoopGains b o b' (e :: es) :=
  ⟨by simp [h.trace, ht], h.blocked, fun ho => (h.free ho).trans hb⟩

theorem LoopGains.append {b b₁ b' : Bus} {o₁ o : LoopOut} {es₁ es : List BusEvent} (h₁ : LoopGains b o₁ b₁ es₁)
    (ho₁ : o₁ ≠ .blocked) (h : LoopGains b₁ o b' es) : LoopGains b o b' (es₁ ++ es) :=
  ⟨by simp [h.trace, h₁.trace], h.blocked, fun ho => (h.free ho).trans (h₁.free ho₁)⟩

theorem writeLoop_gains (addr : Addr) (k j : Nat) (xs : List Byte) (b : Bus) :
    ∃ es, LoopGains b (writeLoop addr k j xs b).1 (writeLoop addr k j xs b).2 es ∧
      (∀ e ∈ es, isInner e = true) ∧ bytesRead es = [] := by
  induction xs generalizing j b with
  | nil => exact ⟨[], .nothing b nofun, nofun, rfl⟩
  | cons x xs ih =>
    obtain ⟨b₁, -, -, -, -, ht, hb, e | e | e | e⟩ := writeLoop_cons addr k j x xs b <;> rw [e]
    · obtain ⟨es, hg, hi, hr⟩ := ih (j + 1) (b₁.record (.w x true))
      exact ⟨_, hg.cons ht hb, by simpa [isInner] using hi, hr⟩
    · exact ⟨_, .failed ht hb _ _, by simp [isInner], rfl⟩
    · exact ⟨_, .failed ht hb _ _, by simp [isInner], rfl⟩
    · exact ⟨[], .stuck ht _, nofun, rfl⟩

/-- The bytes answered stand in front, what was not reached keeps what it held (45_bus_engine.md R233, R242). -/
theorem readLoop_gains (k len j : Nat) (olds : List Byte) (b : Bus) :
    ∃ es, LoopGains b (readLoop k len j olds b).1 (readLoop k len j olds b).2.2 es ∧ (∀ e ∈ es, isInner e = true) ∧
      (readLoop k len j olds b).2.1 = bytesRead es ++ olds.drop (bytesRead es).length ∧
      (bytesRead es).length ≤ olds.length := by
  induction olds generalizing j b with
  | nil => exact ⟨[], .nothing b nofun, nofun, rfl, le_rfl⟩
  | cons old olds ih =>
    obtain ⟨b₁, -, -, -, -, ht, hb, ⟨x, o, xs, b₂, e₂, e⟩ | e | e⟩ := readLoop_cons k len j old olds b <;> rw [e]
    · obtain ⟨es, hg, hi, hd, hl⟩ := ih (j + 1) (b₁.record (.r (ackNextOf j len) x))
      rw [e₂] at hg hd
      exact ⟨_, hg.cons ht hb, by simpa [isInner] using hi, by simpa using hd, by simpa using hl⟩
    · exact ⟨_, .failed ht hb _ _, by simp [isInner], rfl, by simp⟩
    · exact ⟨[], .stuck ht _, nofun, rfl, by simp⟩

/-! ## What the engine makes of a segment -/

/-- `g'` is the segment `g` with the bytes `ys` received into the front of its data, which only a Read segment receives. -/
structure Received (g : Segment) (ys : List Byte) (g' : Segment) : Prop where
  eq : g' = { g with data := ys ++ g.data.drop ys.length }
  fits : ys.length ≤ g.data.length
  write : g.dir = .write → ys = []

theorem Received.nothing (g : Segment) : Received g [] g := ⟨rfl, by simp, fun _ => rfl⟩

theorem Received.length_eq {g g' : Segment} {ys : List Byte} (h : Received g ys g') : g'.data.length = g.data.length := by
  have := h.fits
  simp [h.eq]; omega

theorem dataPhase_gains (k : Nat) (g : Segment) (b : Bus) :
    ∃ es, LoopGains b (dataPhase k g b).1 (dataPhase k g b).2.2 es ∧ (∀ e ∈ es, isInner e = true) ∧
      Received g (bytesRead es) (dataPhase k g b).2.1 := by
  cases hd : g.dir with
  | write =>
    obtain ⟨es, hg, hi, hr⟩ := writeLoop_gains g.addr k 0 g.data b
    rw [dataPhase_write hd]
    exact ⟨es, hg, hi, hr ▸ .nothing g⟩
  | read =>
    obtain ⟨es, hg, hi, hx, hl⟩ := readLoop_gains k g.data.length 0 g.data b
    rw [dataPhase_read hd]
    exact ⟨es, hg, hi, by rw [hx], hl, fun hw => by rw [hd] at hw; cases hw⟩

theorem addrPhase_gains (k : Nat) (g : Segment) (b : Bus) :
    ∃ es, LoopGains b (addrPhase k g b).1 (addrPhase k g b).2.2 es ∧ (∀ e ∈ es, isInner e = true) ∧
      Received g (bytesRead es) (addrPhase k g b).2.1 := by
  obtain ⟨b₁, -, -, -, -, ht, hb, e | e | e | e⟩ := addrPhase_cases k g b <;> rw [e]
  · obtain ⟨es, hg, hi, hr⟩ := dataPhase_gains k g (b₁.record (.a g.addr (decide (g.dir = .read)) true))
    exact ⟨_, hg.cons ht hb, by simpa [isInner] using hi, hr⟩
  · exact ⟨_, .failed ht hb _ _, by simp [isInner], .nothing g⟩
  · exact ⟨_, .failed ht hb _ _, by simp [isInner], .nothing g⟩
  · exact ⟨[], .stuck ht _, nofun, .nothing g⟩

/-- The letters that segment `k` can leave: its condition and then inner letters; the failure of its condition; or none, where its
condition has not returned (45_bus_engine.md R230, R236, R240, R244). -/
inductive SegmentLetters (k : Nat) : LoopOut → List BusEvent → Prop where
  | begun (o : LoopOut) {es : List BusEvent} (inner : ∀ e ∈ es, isInner e = true) :
      SegmentLetters k o ((if k = 0 then .s else .sr) :: es)
  | failed (f : BusFault) : SegmentLetters k (.failed f) [.x (conditionPrim k)]
  | stuck : SegmentLetters k .blocked []

theorem runSegment_gains (k : Nat) (g : Segment) (b : Bus) :
    ∃ es, LoopGains b (runSegment k g b).1 (runSegment k g b).2.2 es ∧ SegmentLetters k (runSegment k g b).1 es ∧
      Received g (bytesRead es) (runSegment k g b).2.1 := by
  obtain ⟨b₁, -, -, -, -, ht, hb, e | e | e⟩ := runSegment_cases k g b <;> rw [e]
  · obtain ⟨es, hg, hi, hr⟩ := addrPhase_gains k g (b₁.record (if k = 0 then .s else .sr))
    exact ⟨_, hg.cons ht hb, .begun _ hi, by simpa using hr⟩
  · exact ⟨_, .failed ht hb _ _, .failed _, .nothing g⟩
  · exact ⟨[], .stuck ht _, .stuck, .nothing g⟩

/-! ## One start, no stop before the stop phase (R230, R234) -/

/-- The start calls that segment `k` makes: the first segment's condition is a start, every later one's a repeated start. -/
def startCalls (k : Nat) : Nat := if k = 0 then 1 else 0

theorem SegmentLetters.calls {k : Nat} {o : LoopOut} {es : List BusEvent} (h : SegmentLetters k o es) :
    callCount isStopCall es = 0 ∧ callCount isStartCall es ≤ startCalls k ∧
    (o ≠ .blocked → callCount isStartCall es = startCalls k) := by
  cases h with
  | begun o inner =>
    obtain ⟨hs, hp⟩ := callCount_inner inner
    by_cases hk : k = 0 <;> simp [callCount_cons, hs, hp, hk, startCalls, isStartCall, isStopCall]
  | failed f =>
    by_cases hk : k = 0 <;> simp [callCount_cons, conditionPrim, hk, startCalls, isStartCall, isStopCall]
  | stuck => simp

theorem runSegments_calls (gs : List Segment) (k : Nat) (b : Bus) :
    ∃ es, LoopGains b (runSegments k gs b).1 (runSegments k gs b).2.2 es ∧ callCount isStopCall es = 0 ∧
      callCount isStartCall es ≤ startCalls k ∧
      (gs ≠ [] → (runSegments k gs b).1 ≠ .blocked → callCount isStartCall es = startCalls k) := by
  induction gs generalizing k b with
  | nil => exact ⟨[], .nothing b nofun, rfl, Nat.zero_le _, fun h => absurd rfl h⟩
  | cons g gs ih =>
    obtain ⟨es, hg, hl, -⟩ := runSegment_gains k g b
    obtain ⟨hstop, hle, heq⟩ := hl.calls
    obtain ⟨g', b₁, o, gs', b₂, e₁, e₂, e⟩ | ⟨f, g', b₁, e₁, e⟩ | ⟨g', b₁, e₁, e⟩ := runSegments_cons k g gs b <;>
      rw [e] <;> rw [e₁] at hg heq
    · obtain ⟨es', hg', hstop', hle', -⟩ := ih (k + 1) b₁
      rw [e₂] at hg'
      have hnone : callCount isStartCall es' = 0 := Nat.le_zero.1 hle'
      exact ⟨es ++ es', hg.append nofun hg', by simp [hstop, hstop'], by simpa [hnone] using hle,
        fun _ _ => by simpa [hnone] using heq nofun⟩
    · exact ⟨es, hg, hstop, hle, fun _ _ => heq nofun⟩
    · exact ⟨es, hg, hstop, hle, fun _ h => absurd rfl h⟩

theorem outOfErr_ne_blocked (e : Option BusFault) : outOfErr e ≠ .blocked := by cases e <;> simp [outOfErr]

/-- The stop phase makes one stop call and leaves the engine at rest, or that call does not return. -/
theorem stopPhase_calls (b : Bus) :
    ((stopPhase b).1 ≠ .blocked ∧ (stopPhase b).2.blocked = b.blocked ∧ (stopPhase b).2.phase = .idle ∧ (stopPhase b).2.err = none ∧
      ∃ e, isStopCall e = true ∧ isStartCall e = false ∧ (stopPhase b).2.trace = b.trace ++ [e]) ∨
    ((stopPhase b).1 = .blocked ∧ (stopPhase b).2.blocked ≠ none ∧ (stopPhase b).2.trace = b.trace) := by
  obtain ⟨b', ht, hb, -, -, e | e | e⟩ := stopPhase_cases b <;> rw [e]
  · exact .inl ⟨outOfErr_ne_blocked _, hb, rfl, rfl, .p, rfl, rfl, by simp [ht]⟩
  · exact .inl ⟨outOfErr_ne_blocked _, hb, rfl, rfl, .x .stop, rfl, rfl, by simp [ht]⟩
  · exact .inr ⟨rfl, by simp, by simp [ht]⟩

/-- What a submit from a bus side with no call outstanding adds to the history: where it ends, as many stop calls as start calls,
the engine at rest unless nothing was submitted; where a call has not returned, no stop call and at most one start call (R234,
R244). -/
def SubmitCalls (b : Bus) (o : EngineOut) (b' : Bus) : Prop :=
  ∃ es, b'.trace = b.trace ++ es ∧
    ((o ≠ .blocked ∧ b'.blocked = none ∧ callCount isStartCall es = callCount isStopCall es ∧
        (b' = b ∨ b'.phase = .idle ∧ b'.err = none)) ∨
      (o = .blocked ∧ b'.blocked ≠ none ∧ callCount isStopCall es = 0 ∧ callCount isStartCall es ≤ 1))

/-- The stop phase ends a submit whose segments made one start call and no stop call. -/
theorem stopPhase_submitCalls {b b₁ : Bus} {es : List BusEvent} (ht : b₁.trace = b.trace ++ es) (hb : b₁.blocked = none)
    (hstop : callCount isStopCall es = 0) (hstart : callCount isStartCall es = 1) :
    SubmitCalls b (stopPhase b₁).1 (stopPhase b₁).2 := by
  rcases stopPhase_calls b₁ with ⟨ho, hfree, hp, he, e, hes, hea, ht'⟩ | ⟨ho, hstuck, ht'⟩
  · refine ⟨es ++ [e], by simp [ht', ht], .inl ⟨ho, hfree.trans hb, ?_, .inr ⟨hp, he⟩⟩⟩
    simp [callCount_cons, hstop, hstart, hes, hea]
  · exact ⟨es, ht'.trans ht, .inr ⟨ho, hstuck, hstop, hstart.le⟩⟩

theorem engineSubmit_calls {segs segs' : List Segment} {b b' : Bus} {o : EngineOut}
    (h : engineSubmit segs b = (o, segs', b')) (hb : b.blocked = none) : SubmitCalls b o b' := by
  cases segs with
  | nil => cases h; exact ⟨[], by simp, .inl ⟨nofun, hb, rfl, .inl rfl⟩⟩
  | cons g gs =>
    obtain ⟨es, hg, hstop, hle, heq⟩ := runSegments_calls (g :: gs) 0 (b.withErr none)
    obtain ⟨gs', b₁, e₁, e⟩ | ⟨gs', b₁, e₁, e⟩ | ⟨f, gs', b₁, e₁, e⟩ := engineSubmit_cases g gs b <;>
      rw [e₁] at hg heq <;> cases e.symm.trans h
    · exact ⟨es, hg.trace, .inr ⟨rfl, hg.blocked rfl, hstop, hle⟩⟩
    · exact stopPhase_submitCalls hg.trace ((hg.free nofun).trans hb) hstop (heq nofun nofun)
    · exact stopPhase_submitCalls (b₁ := b₁.withErr (some f)) hg.trace ((hg.free nofun).trans hb) hstop (heq nofun nofun)

/-! ## What every segment has received (R242) -/

theorem receivedIn_inner (m cur : Nat) {es : List BusEvent} (h : ∀ e ∈ es, isInner e = true) (rest : List BusEvent) :
    receivedIn m cur (es ++ rest) = (if cur = m then bytesRead es else []) ++ receivedIn m cur rest := by
  induction es with
  | nil => simp
  | cons e es ih =>
    have ih := ih fun e' he' => h e' (.tail _ he')
    cases e with
    | r ackNext x => by_cases hc : cur = m <;> simp_all [receivedIn]
    | sr => exact absurd rfl (isInner_no_condition (h _ (.head _))).2.2
    | _ => simpa [receivedIn, bytesRead] using ih

/-- Stop calls receive nothing. -/
theorem receivedIn_append_stop (m cur : Nat) (es : List BusEvent) {e : BusEvent} (h : isStopCall e = true) :
    receivedIn m cur (es ++ [e]) = receivedIn m cur es := by
  induction es generalizing cur with
  | nil => cases e <;> simp_all [isStopCall, receivedIn]
  | cons e' es ih => cases e' <;> simp [receivedIn, ih]

/-- Segment `k`'s letters, once begun, are counted for segment `k`: its repeated start moves the count from segment `k - 1` on. -/
theorem receivedIn_begun (m k : Nat) {es : List BusEvent} (h : ∀ e ∈ es, isInner e = true) (rest : List BusEvent) :
    receivedIn m (k - 1) ((if k = 0 then .s else .sr) :: es ++ rest) =
      (if k = m then bytesRead es else []) ++ receivedIn m k rest := by
  rw [← receivedIn_inner m k h rest]
  cases k <;> rfl

theorem SegmentLetters.receivedIn {k : Nat} {o : LoopOut} {es : List BusEvent} (h : SegmentLetters k o es) (m : Nat) :
    Claim.receivedIn m (k - 1) es = if k = m then bytesRead es else [] := by
  cases h with
  | begun o inner => simpa [Claim.receivedIn] using receivedIn_begun m k inner []
  | failed f => simp [Claim.receivedIn]
  | stuck => simp [Claim.receivedIn]

theorem SegmentLetters.receivedIn_append {k : Nat} {es : List BusEvent} (h : SegmentLetters k .done es) (m : Nat)
    (rest : List BusEvent) :
    Claim.receivedIn m (k - 1) (es ++ rest) = (if k = m then bytesRead es else []) ++ Claim.receivedIn m k rest := by
  cases h with
  | begun o inner => simpa using receivedIn_begun m k inner rest

/-- The segments `gs'` are the segments `gs`, numbered from `k` on, with the bytes that the letters `es` received for each; before
segment `k` the letters receive nothing. -/
structure SegmentsReceived (k : Nat) (gs : List Segment) (es : List BusEvent) (gs' : List Segment) : Prop where
  length : gs'.length = gs.length
  before : ∀ m < k, receivedIn m (k - 1) es = []
  each : ∀ (i : Nat) (g g' : Segment), gs[i]? = some g → gs'[i]? = some g' → Received g (receivedIn (k + i) (k - 1) es) g'

/-- A segment that ends the loop leaves the later ones as they were. -/
theorem SegmentsReceived.last {k : Nat} {g g' : Segment} {o : LoopOut} {es : List BusEvent} (hl : SegmentLetters k o es)
    (hr : Received g (bytesRead es) g') (gs : List Segment) : SegmentsReceived k (g :: gs) es (g' :: gs) where
  length := rfl
  before m hm := by rw [hl.receivedIn, if_neg (by omega)]
  each i h h' hi hi' := by
    rw [hl.receivedIn]
    cases i with
    | zero => cases hi; cases hi'; simpa using hr
    | succ i =>
      cases hi.symm.trans hi'
      rw [if_neg (by omega)]
      exact .nothing h

/-- A segment that is done goes before the later ones. -/
theorem SegmentsReceived.cons {k : Nat} {g g' : Segment} {gs gs' : List Segment} {es es' : List BusEvent}
    (hl : SegmentLetters k .done es) (hr : Received g (bytesRead es) g') (h : SegmentsReceived (k + 1) gs es' gs') :
    SegmentsReceived k (g :: gs) (es ++ es') (g' :: gs') where
  length := by simp [h.length]
  before m hm := by
    rw [hl.receivedIn_append, if_neg (by omega), List.nil_append]
    exact h.before m (by omega)
  each i a a' hi hi' := by
    rw [hl.receivedIn_append]
    cases i with
    | zero =>
      cases hi; cases hi'
      rw [if_pos (Nat.add_zero k).symm, show receivedIn (k + 0) k es' = [] from h.before k (by omega), List.append_nil]
      exact hr
    | succ i =>
      rw [if_neg (by omega), List.nil_append, show k + (i + 1) = k + 1 + i by omega]
      exact h.each i a a' hi hi'

theorem runSegments_received (gs : List Segment) (k : Nat) (b : Bus) :
    ∃ es, (runSegments k gs b).2.2.trace = b.trace ++ es ∧ SegmentsReceived k gs es (runSegments k gs b).2.1 := by
  induction gs generalizing k b with
  | nil => exact ⟨[], by simp [runSegments], rfl, fun _ _ => rfl, nofun⟩
  | cons g gs ih =>
    obtain ⟨es, hg, hl, hr⟩ := runSegment_gains k g b
    obtain ⟨g', b₁, o, gs', b₂, e₁, e₂, e⟩ | ⟨f, g', b₁, e₁, e⟩ | ⟨g', b₁, e₁, e⟩ := runSegments_cons k g gs b <;>
      rw [e] <;> rw [e₁] at hg hl hr
    · obtain ⟨es', ht', h'⟩ := ih (k + 1) b₁
      rw [e₂] at ht' h'
      exact ⟨es ++ es', ht'.trans ((congrArg (· ++ es') hg.trace).trans (List.append_assoc ..)), h'.cons hl hr⟩
    · exact ⟨es, hg.trace, .last hl hr gs⟩
    · exact ⟨es, hg.trace, .last hl hr gs⟩

/-- The stop phase adds no byte to what the segments have received. -/
theorem stopPhase_received {gs gs' : List Segment} {b b₁ : Bus} {es : List BusEvent} (ht : b₁.trace = b.trace ++ es)
    (h : SegmentsReceived 0 gs es gs') :
    ∃ es', (stopPhase b₁).2.trace = b.trace ++ es' ∧ SegmentsReceived 0 gs es' gs' := by
  rcases stopPhase_calls b₁ with ⟨-, -, -, -, e, he, -, ht'⟩ | ⟨-, -, ht'⟩
  · refine ⟨es ++ [e], by simp [ht', ht], h.length, nofun, fun i g g' hi hi' => ?_⟩
    rw [receivedIn_append_stop _ _ _ he]
    exact h.each i g g' hi hi'
  · exact ⟨es, ht'.trans ht, h⟩

theorem engineSubmit_received {segs segs' : List Segment} {b b' : Bus} {o : EngineOut}
    (h : engineSubmit segs b = (o, segs', b')) :
    ∃ es, b'.trace = b.trace ++ es ∧ SegmentsReceived 0 segs es segs' := by
  cases segs with
  | nil => cases h; exact ⟨[], by simp, rfl, nofun, nofun⟩
  | cons g gs =>
    obtain ⟨es, ht, hr⟩ := runSegments_received (g :: gs) 0 (b.withErr none)
    obtain ⟨gs', b₁, e₁, e⟩ | ⟨gs', b₁, e₁, e⟩ | ⟨f, gs', b₁, e₁, e⟩ := engineSubmit_cases g gs b <;>
      rw [e₁] at ht hr <;> cases e.symm.trans h
    · exact ⟨es, ht, hr⟩
    · exact stopPhase_received ht hr
    · exact stopPhase_received (b₁ := b₁.withErr (some f)) ht hr

/-- Behind the bytes received, data that held zeros still hold zeros. -/
theorem Received.zero_behind {g g' : Segment} {ys : List Byte} (h : Received g ys g')
    (hz : g.data = List.replicate g.data.length 0) {j : Nat} (hj : ys.length ≤ j) (hl : j < g.data.length) :
    g'.data[j]? = some 0 := by
  have hg : g.data[j]? = some 0 := by rw [hz, List.getElem?_replicate, if_pos hl]
  simp only [h.eq]
  rw [List.getElem?_append_right hj, List.getElem?_drop, Nat.add_sub_cancel' hj, hg]

/-- Settles O42: segment by segment, what the submit's letters received is what stands in the data. -/
theorem engineKeepsTheSegmentList : Obligations.EngineKeepsTheSegmentList := by
  intro segs segs' b b' o h
  obtain ⟨es, ht, hs⟩ := engineSubmit_received h
  refine ⟨hs.length, es, ht, fun k g g' hk hk' => ?_⟩
  have hr : Received g (receivedIn k 0 es) g' := by simpa using hs.each k g g' hk hk'
  refine ⟨by rw [hr.eq], by rw [hr.eq], hr.length_eq, fun hw => ?_, fun _ => ⟨by rw [hr.eq], fun hz j => hr.zero_behind hz⟩⟩
  have e := hr.eq
  rw [hr.write hw] at e
  exact e

/-! ## The bus side at rest (R37, R234) -/

/-- What `busOk` asks of the bus side of a state. -/
def Bus.Rests (b : Bus) : Prop := engineAtRest b ∧ startsStopped b

theorem Bus.rests_iff_of_free {b : Bus} (h : b.blocked = none) :
    b.Rests ↔ (b.phase = .idle ∧ b.err = none) ∧ callCount isStartCall b.trace = callCount isStopCall b.trace := by
  simp [Bus.Rests, engineAtRest, startsStopped, h]

theorem Bus.rests_iff_of_stuck {b : Bus} (h : b.blocked ≠ none) :
    b.Rests ↔ callCount isStopCall b.trace ≤ callCount isStartCall b.trace ∧
      callCount isStartCall b.trace ≤ callCount isStopCall b.trace + 1 := by
  simp [Bus.Rests, engineAtRest, startsStopped, h]

/-- What one run of the driver by a command makes of the bus side: a call of `drv.open` or `drv.close`, or a whole submit. -/
inductive BusRun (b : Bus) : Bus → Prop where
  | opened {o : CallOut} {b' : Bus} (h : drvOpen b = (o, b')) : BusRun b b'
  | closed {o : CallOut} {b' : Bus} (h : drvClose b = (o, b')) : BusRun b b'
  | submitted {segs segs' : List Segment} {o : EngineOut} {b' : Bus} (h : engineSubmit segs b = (o, segs', b')) : BusRun b b'

/-- One call that is neither a start nor a stop, from a bus side at rest. -/
theorem drvCall_rests {call : Prim} {letter : Bool → Byte → BusEvent} {b b' : Bus} {o : CallOut}
    (h : drvCall call letter b = (o, b')) (hl : ∀ ack x, isStartCall (letter ack x) = false ∧ isStopCall (letter ack x) = false)
    (hc : isStartCall (.x call) = false ∧ isStopCall (.x call) = false) (hb : b.blocked = none) (hr : b.Rests) : b'.Rests := by
  obtain ⟨⟨hp, he⟩, hcalls⟩ := (Bus.rests_iff_of_free hb).1 hr
  obtain ⟨b₁, hp₁, -, -, he₁, ht₁, hb₁, ⟨ack, x, e⟩ | e | e⟩ := drvCall_cases call letter b <;> cases e.symm.trans h
  · rw [Bus.rests_iff_of_free (by simp [hb₁, hb])]
    exact ⟨⟨hp₁.trans hp, he₁.trans he⟩, by simp [callCount_cons, ht₁, hcalls, hl]⟩
  · rw [Bus.rests_iff_of_free (by simp [hb₁, hb])]
    exact ⟨⟨hp₁.trans hp, he₁.trans he⟩, by simp [callCount_cons, ht₁, hcalls, hc]⟩
  · rw [Bus.rests_iff_of_stuck (by simp)]
    simp [ht₁, hcalls]

theorem SubmitCalls.rests {b b' : Bus} {o : EngineOut} (h : SubmitCalls b o b') (hb : b.blocked = none) (hr : b.Rests) :
    b'.Rests := by
  obtain ⟨hidle, hcalls⟩ := (Bus.rests_iff_of_free hb).1 hr
  obtain ⟨es, ht, ⟨-, hfree, heq, hends⟩ | ⟨-, hstuck, hstop, hstart⟩⟩ := h
  · refine (Bus.rests_iff_of_free hfree).2 ⟨?_, by simp [ht, hcalls, heq]⟩
    rcases hends with rfl | hends
    · exact hidle
    · exact hends
  · rw [Bus.rests_iff_of_stuck hstuck]
    simp [ht, hcalls, hstop, hstart]

/-- Every run of the driver by a command that finds the bus side at rest leaves it so, or in a call that has not returned. -/
theorem BusRun.rests {b b' : Bus} (h : BusRun b b') (hb : b.blocked = none) (hr : b.Rests) : b'.Rests := by
  cases h with
  | opened h => exact drvCall_rests h (fun _ _ => ⟨rfl, rfl⟩) ⟨rfl, rfl⟩ hb hr
  | closed h => exact drvCall_rests h (fun _ _ => ⟨rfl, rfl⟩) ⟨rfl, rfl⟩ hb hr
  | submitted h => exact (engineSubmit_calls h hb).rests hb hr

/-- After a submit that ended no call is outstanding. -/
theorem engineSubmit_free {segs segs' : List Segment} {b b' : Bus} {o : EngineOut} (h : engineSubmit segs b = (o, segs', b'))
    (hb : b.blocked = none) (ho : o ≠ .blocked) : b'.blocked = none := by
  obtain ⟨es, -, ⟨-, hfree, -⟩ | ⟨hstuck, -⟩⟩ := engineSubmit_calls h hb
  · exact hfree
  · exact absurd hstuck ho

end Sys2Proof.Machine
end

section
/-! PROOFS of the statements about the state (10_state.md), second part: buffers read piece by piece, and the frame slot's memo (R31
to R33). -/

namespace Sys2Proof.Machine

open Sys2Proof.Claim

/-! ## Reading a buffer piece by piece -/

theorem memRead_add (buf : List Byte) (addr m n : Nat) :
    memRead buf addr (m + n) = memRead buf addr m ++ memRead buf (addr + m) n := by
  simp [memRead, List.take_add, List.drop_drop]

theorem memRead_all (buf : List Byte) : memRead buf 0 buf.length = buf := by simp [memRead]

/-- The bytes at consecutive positions. -/
theorem memRead_cons {buf : List Byte} {addr : Nat} {x : Byte} (h : buf[addr]? = some x) (n : Nat) :
    memRead buf addr (n + 1) = x :: memRead buf (addr + 1) n := by
  obtain ⟨hl, rfl⟩ := List.getElem?_eq_some_iff.1 h
  simp only [memRead, List.drop_eq_getElem_cons hl, List.take_succ_cons]

@[simp] theorem memRead_zero (buf : List Byte) (addr : Nat) : memRead buf addr 0 = [] := rfl

theorem getElem?_byteAt {buf : List Byte} {i : Nat} (h : i < buf.length) : buf[i]? = some (byteAt buf i) := by
  simp [byteAt, h]

theorem memRead_two {buf : List Byte} {addr : Nat} (h : addr + 2 ≤ buf.length) :
    memRead buf addr 2 = [byteAt buf addr, byteAt buf (addr + 1)] := by
  rw [memRead_cons (getElem?_byteAt (by omega)), memRead_cons (getElem?_byteAt (by omega)), memRead_zero]

/-- A frame's bytes by its fields: sync bytes, class and id, declared length, payload, stored checksum (30_encoding.md R79). -/
theorem frame_pieces {b : List Byte} (h : 8 ≤ b.length) :
    b = memRead b 0 2 ++ memRead b 2 (b.length - 4) ++ memRead b (b.length - 2) 2 ∧
    memRead b 2 (b.length - 4) = memRead b 2 2 ++ memRead b 4 2 ++ memRead b 6 (b.length - 8) := by
  constructor
  · have e : b.length = 2 + (b.length - 4) + 2 := by omega
    conv_lhs => rw [← memRead_all b, e, memRead_add, memRead_add]
    rw [show 0 + (2 + (b.length - 4)) = b.length - 2 by omega]
  · rw [show b.length - 4 = 2 + 2 + (b.length - 8) by omega, memRead_add, memRead_add]

/-! ## The memo of the frame slot -/

/-- The checksum stored in a serialized frame is the one over its body. -/
theorem storedCks_serFrame (cfg : Config) (cls id : Byte) (payload : List Byte) :
    storedCks (serFrame cfg cls id payload) = cksOver cfg (frameBody cls id payload) := by
  have hread : memRead (serFrame cfg cls id payload) ((serFrame cfg cls id payload).length - 2) 2 =
      beBytes 2 (cksOver cfg (frameBody cls id payload)).toNat := by
    rw [memRead, List.take_of_length_le (by simp; omega), serFrame]
    exact List.drop_left' (by simp)
  apply BitVec.eq_of_toNat_eq
  rw [storedCks, hread, ofBe_beBytes, BitVec.toNat_ofNat, show 256 ^ 2 = 2 ^ 16 from rfl, Nat.mod_mod,
    Nat.mod_eq_of_lt (BitVec.isLt _)]

/-- The length field of a frame that parses, and its checksum field, as bytes. -/
theorem leBytes_declaredLen {b : List Byte} (h : 8 ≤ b.length) : leBytes 2 (declaredLen b) = memRead b 4 2 := by
  have := leBytes_ofLe (memRead b 4 2)
  rwa [memRead_length _ _ _ (by omega)] at this

theorem beBytes_storedCks {b : List Byte} (h : 8 ≤ b.length) : beBytes 2 (storedCks b).toNat = memRead b (b.length - 2) 2 := by
  have hl : (memRead b (b.length - 2) 2).length = 2 := memRead_length _ _ _ (by omega)
  have hlt := ofBe_lt (memRead b (b.length - 2) 2)
  have := beBytes_ofBe (memRead b (b.length - 2) 2)
  rw [hl] at hlt this
  rwa [storedCks, BitVec.toNat_ofNat, show 2 ^ 16 = 256 ^ 2 from rfl, Nat.mod_eq_of_lt hlt]

theorem declaredLen_lt {b : List Byte} (h : 8 ≤ b.length) : declaredLen b < 65536 := by
  have := ofLe_lt (memRead b 4 2)
  rwa [memRead_length _ _ _ (by omega)] at this

/-- What parses is the serialized form of what was found (43_frame_codec.md R192, R196). -/
theorem serFrame_of_parseFrame {d : Build} {b : List Byte} {r : Parsed} (h : parseFrame d.config b = some r) :
    r.payload.length ≤ 65535 ∧ r.ck = cksOver d.config (frameBody r.cls r.id r.payload) ∧
    serFrame d.config r.cls r.id r.payload = b := by
  obtain ⟨hl, h0, h1, hd, hc, rfl⟩ := parseFrame_some h
  obtain ⟨hb, hm⟩ := frame_pieces hl
  have hp : (memRead b 6 (b.length - 8)).length = declaredLen b := by
    rw [memRead_length _ _ _ (by omega)]; omega
  have hbody : frameBody (byteAt b 2) (byteAt b 3) (memRead b 6 (b.length - 8)) = memRead b 2 (b.length - 4) := by
    rw [hm, memRead_two (by omega), ← leBytes_declaredLen hl, ← hp, frameBody]
  have hck : storedCks b = cksOver d.config (memRead b 2 (b.length - 4)) := hc.symm
  refine ⟨?_, by rw [hbody]; exact hck, ?_⟩
  · have := declaredLen_lt hl
    simp only [hp]; omega
  · rw [serFrame_eq, hbody, ← hck, beBytes_storedCks hl]
    conv_rhs => rw [hb, memRead_two (by omega), h0, h1]

/-- A new frame holds no memo. -/
theorem frameOk_new (cfg : Config) (cls id : Byte) {payload : List Byte} (h : payload.length ≤ 65535) :
    frameOk cfg ⟨true, cls, id, payload, none, none⟩ :=
  ⟨h, nofun, nofun, nofun⟩

theorem frameOk_memoize {cfg : Config} {f : FrameSlot} (h : frameOk cfg f) : frameOk cfg (memoize cfg f) := by
  unfold memoize
  split
  · exact h
  · refine ⟨h.1, ?_, ?_, ?_⟩
    · rintro xs ⟨⟩; rfl
    · rintro c ⟨⟩; exact storedCks_serFrame ..
    · intro _; rfl

theorem frameOk_memoizeCks {cfg : Config} {f : FrameSlot} (h : frameOk cfg f) : frameOk cfg (memoizeCks cfg f) := by
  unfold memoizeCks
  split
  · exact h
  · obtain ⟨hp, hser, -, -⟩ := h
    exact ⟨hp, hser, by rintro c ⟨⟩; rfl, fun _ => rfl⟩

/-- A frame loaded from a buffer that parses has the buffer and its checksum as its memo. -/
theorem frameOk_loaded {d : Build} {b : List Byte} {r : Parsed} (h : parseFrame d.config b = some r) :
    frameOk d.config ⟨true, r.cls, r.id, r.payload, some b, some r.ck⟩ := by
  obtain ⟨hp, hck, hser⟩ := serFrame_of_parseFrame h
  exact ⟨hp, by rintro xs ⟨⟩; exact hser.symm, by rintro c ⟨⟩; exact hck, fun _ => rfl⟩

end Sys2Proof.Machine
end

section
/-! PROOFS of the statements about the state (10_state.md), third part: every command is a sequence of moves, each of one unit of
the block, and every move keeps the invariants (R23 to R26, R31 to R37). -/

namespace Sys2Proof.Machine

open Sys2Proof.Claim

/-! ## Moves -/

/-- One unit of the block takes a new value, the other units keep theirs. The premises say what commands guarantee of the new value:
it is legal where the old one was, and the bus side changes by runs of the driver alone. That commands do nothing else is
`exec_moves`. -/
inductive Move (s : State) : State → Prop where
  | queue (q : List (List Byte)) : Move s (s.withCmdIn q)
  | result (v : Option Result) : Move s (s.withResult v)
  | cks (c : Cks) : Move s (s.withCks c)
  | transport (v : Transport) : Move s (s.withTp v)
  | reader {r : PackedReader} (keeps : readerOk s.pr → readerOk r) : Move s (s.withPr r)
  | writer {w : PackedWriter} (keeps : writerOk s.pw → writerOk w) : Move s (s.withPw w)
  | frame {f : FrameSlot} (keeps : frameOk s.cfg s.frm → frameOk s.cfg f) : Move s (s.withFrm f)
  | builder {v : Builder} (keeps : segmentsOk s.tb.segs → segmentsOk v.segs) : Move s (s.withTb v)
  | txn {v : TxnSlot} (keeps : segmentsOk s.tb.segs → segmentsOk s.txn.segs → segmentsOk v.segs) : Move s (s.withTxn v)
  | bus {b : Bus} (free : s.bus.blocked = none) (run : BusRun s.bus b) : Move s (s.withBus b)

theorem Move.build_eq {s t : State} (h : Move s t) : t.build = s.build := by cases h <;> rfl

theorem Move.slotsOk {s t : State} (h : Move s t) (hs : slotsOk s) : Claim.slotsOk t := by
  obtain ⟨hr, hw, hb, hx, hf⟩ := hs
  cases h with
  | queue | result | cks | transport | bus => exact ⟨hr, hw, hb, hx, hf⟩
  | reader keeps => exact ⟨keeps hr, hw, hb, hx, hf⟩
  | writer keeps => exact ⟨hr, keeps hw, hb, hx, hf⟩
  | frame keeps => exact ⟨hr, hw, hb, hx, keeps hf⟩
  | builder keeps => exact ⟨hr, hw, keeps hb, hx, hf⟩
  | txn keeps => exact ⟨hr, hw, hb, keeps hb hx, hf⟩

theorem Move.busOk {s t : State} (h : Move s t) (hs : busOk s) : Claim.busOk t := by
  cases h with
  | bus free run => exact run.rests free hs
  | _ => exact hs

/-- Moves one after the other. -/
abbrev Moves : State → State → Prop := Relation.ReflTransGen Move

theorem Moves.build_eq {s t : State} (h : Moves s t) : t.build = s.build := by
  induction h with
  | refl => rfl
  | tail _ m ih => exact m.build_eq.trans ih

theorem Moves.slotsOk {s t : State} (h : Moves s t) (hs : slotsOk s) : Claim.slotsOk t := by
  induction h with
  | refl => exact hs
  | tail _ m ih => exact m.slotsOk ih

theorem Moves.busOk {s t : State} (h : Moves s t) (hs : busOk s) : Claim.busOk t := by
  induction h with
  | refl => exact hs
  | tail _ m ih => exact m.busOk ih

/-- A command that only ends. -/
theorem moves_withResult (s : State) (v : Option Result) : Moves s (s.withResult v) := .single (.result v)

/-- A command that makes one move and ends. -/
theorem Move.ends {s t : State} {v : Option Result} (h : Move s t) : Moves s (t.withResult v) := .tail (.single h) (.result v)

/-! ## The checks before a command runs -/

theorem moves_needObject {valid : Bool} {s : State} {k : State → State} (h : Moves s (k s)) :
    Moves s (needObject valid s k) := by
  rcases needObject_cases valid s k with ⟨-, e⟩ | ⟨-, e⟩ <;> rw [e]
  · exact h
  · exact moves_withResult s _

/-- What runs after the check has a length below 2^31. -/
theorem moves_needLength {n : Nat} {s : State} {k : State → State} (h : n < 2 ^ 31 → Moves s (k s)) :
    Moves s (needLength n s k) := by
  rcases needLength_cases n s k with ⟨hn, e⟩ | ⟨-, e⟩ <;> rw [e]
  · exact h hn
  · exact moves_withResult s _

theorem moves_needAddress {a : Byte} {s : State} {k : State → State} (h : Moves s (k s)) : Moves s (needAddress a s k) := by
  rcases needAddress_cases a s k with ⟨-, e⟩ | ⟨-, e⟩ <;> rw [e]
  · exact h
  · exact moves_withResult s _

theorem moves_needDefault {d : Option Addr} {s : State} {k : Addr → State → State} (h : ∀ a, Moves s (k a s)) :
    Moves s (needDefault d s k) := by
  rcases needDefault_cases d s k with ⟨a, -, e⟩ | ⟨-, e⟩ <;> rw [e]
  · exact h a
  · exact moves_withResult s _

theorem moves_needConfigured {s : State} {k : State → State} (h : Moves s (k s)) : Moves s (needConfigured s k) := by
  rcases needConfigured_cases s k with ⟨-, e⟩ | ⟨-, e⟩ <;> rw [e]
  · exact h
  · exact moves_withResult s _

/-! ## The packed reader and writer -/

theorem moves_peekScalar (t : FieldType) (off : Word32) (s : State) : Moves s (peekScalar t off s) := by
  rcases peekScalar_cases t off s with ⟨-, e⟩ | ⟨-, -, e⟩ | ⟨-, -, e⟩ <;> rw [e] <;> exact moves_withResult s _

theorem moves_peekBytes (off n : Word32) (s : State) : Moves s (peekBytes off n s) := by
  rcases peekBytes_cases off n s with ⟨-, e⟩ | ⟨-, -, e⟩ | ⟨-, -, -, e⟩ | ⟨-, -, -, e⟩ <;> rw [e] <;>
    exact moves_withResult s _

/-- The cursor advances inside the buffer. -/
theorem moves_advance {s : State} {n : Nat} (h : s.pr.cur + n ≤ s.pr.buf.length) (v : Option Result) :
    Moves s ((s.withPr { s.pr with cur := s.pr.cur + n }).withResult v) :=
  Move.ends (.reader fun ⟨hl, _⟩ => ⟨hl, h⟩)

theorem moves_readScalar (t : FieldType) (s : State) : Moves s (readScalar t s) := by
  rcases readScalar_cases t s with ⟨-, e⟩ | ⟨-, hle, e⟩ | ⟨-, -, e⟩ <;> rw [e]
  · exact moves_withResult s _
  · exact moves_advance hle _
  · exact moves_withResult s _

theorem moves_readBytes (n : Word32) (s : State) : Moves s (readBytes n s) := by
  rcases readBytes_cases n s with ⟨-, e⟩ | ⟨-, -, e⟩ | ⟨-, -, hle, e⟩ | ⟨-, -, -, e⟩ <;> rw [e]
  · exact moves_withResult s _
  · exact moves_withResult s _
  · exact moves_advance hle _
  · exact moves_withResult s _

/-- A store inside the buffer keeps its length. -/
theorem moves_pokeRaw (off : Word32) (xs : List Byte) (s : State) : Moves s (pokeRaw off xs s) := by
  rcases pokeRaw_cases off xs s with ⟨hr, e⟩ | ⟨-, e⟩ <;> rw [e]
  · have hlen := memWrite_length s.pw.buf _ xs (inRange_toNat hr).1
    exact Move.ends (.writer fun ⟨hl, hc⟩ => ⟨hlen.trans_lt hl, hc.trans_eq hlen.symm⟩)
  · exact moves_withResult s _

theorem moves_writeRaw (xs : List Byte) (s : State) : Moves s (writeRaw xs s) := by
  rcases writeRaw_cases xs s with ⟨hle, e⟩ | ⟨-, e⟩ <;> rw [e]
  · have hlen := memWrite_length s.pw.buf s.pw.cur xs hle
    exact Move.ends (.writer fun ⟨hl, _⟩ => ⟨hlen.trans_lt hl, hle.trans_eq hlen.symm⟩)
  · exact moves_withResult s _

theorem moves_pokeScalar (t : FieldType) (off : Word32) (val : Nat) (s : State) : Moves s (pokeScalar t off val s) :=
  moves_needObject (moves_pokeRaw off _ s)

theorem moves_writeScalar (t : FieldType) (val : Nat) (s : State) : Moves s (writeScalar t val s) :=
  moves_needObject (moves_writeRaw _ s)

/-! ## The frame slot -/

theorem moves_frmNewOp (cls id : Byte) (data : List Byte) (s : State) : Moves s (frmNewOp cls id data s) := by
  refine moves_needLength fun _ => ?_
  split
  · exact moves_withResult s _
  · next h => exact Move.ends (.frame fun _ => frameOk_new s.cfg cls id (Nat.not_lt.1 h))

/-- A frame slot that is emptied keeps its other fields (log 10). -/
theorem moves_emptied (s : State) (v : Option Result) : Moves s ((s.withFrm { s.frm with valid := false }).withResult v) :=
  Move.ends (.frame fun h => h)

theorem moves_loadFrame (raw : List Byte) (s : State) : Moves s (loadFrame s.cfg raw s) := by
  rcases loadFrame_cases s.cfg raw s with ⟨-, e⟩ | ⟨p, hp, e⟩ <;> rw [e]
  · exact moves_emptied s _
  · exact Move.ends (.frame fun _ => frameOk_loaded hp)

/-! ## The builder and the bus -/

theorem zeroBytes_legal {n : Nat} (h : n < 2 ^ 31) : (zeroBytes n).length < 2 ^ 31 := (zeroBytes_length n).trans_lt h

/-- Appending a segment of legal length. -/
theorem moves_appendSegment (dir : Dir) (addr : Addr) {data : List Byte} (h : data.length < 2 ^ 31) (s : State) :
    Moves s (appendSegment dir addr data s) := by
  refine Move.ends (.builder fun hs g hg => ?_)
  rcases List.mem_append.1 hg with hg | hg
  · exact hs g hg
  · rw [List.mem_singleton.1 hg]; exact h

theorem moves_txnBuild (s : State) :
    Moves s ((s.withTxn ⟨true, s.tb.segs, false⟩).withTb { s.tb with valid := false }).ok :=
  have hbuilt : Move s (s.withTxn ⟨true, s.tb.segs, false⟩) := .txn fun hs _ => hs
  .head hbuilt (Move.ends (.builder fun hs => hs))

theorem BusRun.moves {s : State} {b : Bus} {v : Option Result} (run : BusRun s.bus b) (free : s.bus.blocked = none) :
    Moves s ((s.withBus b).withResult v) :=
  Move.ends (.bus free run)

theorem moves_portCommand (call : Prim) {drv : Bus → CallOut × Bus} {s : State} (free : s.bus.blocked = none)
    (hrun : ∀ o b, drv s.bus = (o, b) → BusRun s.bus b) : Moves s (portCommand call drv s) := by
  rcases portCommand_cases call drv s with ⟨a, x, b, h, e⟩ | ⟨b, h, e⟩ | ⟨b, h, e⟩ <;> rw [e] <;>
    exact (hrun _ _ h).moves free

/-- The engine keeps the length of every segment's data. -/
theorem segmentsOk_engineSubmit {segs segs' : List Segment} {b b' : Bus} {o : EngineOut}
    (h : engineSubmit segs b = (o, segs', b')) (hs : segmentsOk segs) : segmentsOk segs' := by
  obtain ⟨es, -, hr⟩ := engineSubmit_received h
  intro g' hg'
  obtain ⟨i, hi, rfl⟩ := List.getElem_of_mem hg'
  have hi' : i < segs.length := hr.length ▸ hi
  have hrec := hr.each i segs[i] segs'[i] (List.getElem?_eq_getElem hi') (List.getElem?_eq_getElem hi)
  rw [hrec.length_eq]
  exact hs _ (List.getElem_mem hi')

theorem moves_submitRun {s : State} (free : s.bus.blocked = none) : Moves s (submitRun s) := by
  obtain ⟨o, segs, b, h, e⟩ := submitRun_cases s
  have hslot : Move s (s.withTxn { s.txn with segs := segs, consumed := true }) :=
    .txn fun _ hs => segmentsOk_engineSubmit h hs
  rw [e]
  exact .head hslot (Move.ends (.bus free (.submitted h)))

/-! ## The transport adapter -/

/-- A transaction of the transport adapter, and what follows it with no call outstanding. -/
theorem moves_transact (segs : List Segment) {s : State} {k : List Segment → State → State} (free : s.bus.blocked = none)
    (hk : ∀ segs t, t.bus.blocked = none → Moves t (k segs t)) : Moves s (transact segs s k) := by
  rcases transact_cases segs s k with ⟨segs', b, h, e⟩ | ⟨f, segs', b, h, e⟩ | ⟨segs', b, h, e⟩ <;> rw [e]
  · exact .head (.bus free (.submitted h)) (hk segs' (s.withBus b) (engineSubmit_free h free nofun))
  · exact (BusRun.submitted h).moves free
  · exact (BusRun.submitted h).moves free

theorem moves_sendOp {s : State} (free : s.bus.blocked = none) : Moves s (sendOp s) :=
  .head (.frame frameOk_memoize) (moves_transact _ free fun _ t _ => moves_withResult t _)

theorem moves_pollRead (count : Nat) {s : State} (free : s.bus.blocked = none) : Moves s (pollRead count s) := by
  refine moves_transact _ free fun segs t _ => ?_
  split
  · exact moves_emptied t _
  · exact moves_loadFrame _ t

theorem moves_pollOp {s : State} (free : s.bus.blocked = none) : Moves s (pollOp s) := by
  refine moves_transact _ free fun segs t ht => ?_
  split
  · exact moves_emptied t _
  · exact moves_pollRead _ ht

/-! ## Every command -/

/-- Every command that begins with no call outstanding is a sequence of moves. The split follows the shared operations. -/
theorem exec_moves (i : Instr) {s : State} (free : s.bus.blocked = none) : ∃ t, exec i s = .next t ∧ Moves s t := by
  cases i with
  | cksNew | cksUpdate8 | cksUpdate16 => exact ⟨_, rfl, Move.ends (.cks _)⟩
  | cksGet => exact ⟨_, rfl, moves_withResult s _⟩
  | prPeekU8 | prPeekS8 | prPeekU16LE | prPeekS16LE | prPeekU16BE | prPeekS16BE | prPeekU32LE | prPeekS32LE
  | prPeekU32BE | prPeekS32BE | prPeekF32 | prPeekF64 | prPeekChar => exact ⟨_, rfl, moves_peekScalar _ _ s⟩
  | prPeekBytes => exact ⟨_, rfl, moves_peekBytes _ _ s⟩
  | prReadU8 | prReadS8 | prReadU16LE | prReadS16LE | prReadU16BE | prReadS16BE | prReadU32LE | prReadS32LE
  | prReadU32BE | prReadS32BE | prReadF32 | prReadF64 | prReadChar => exact ⟨_, rfl, moves_readScalar _ s⟩
  | prReadBytes => exact ⟨_, rfl, moves_readBytes _ s⟩
  | prNew => exact ⟨_, rfl, moves_needLength fun hn => Move.ends (.reader fun _ => ⟨hn, Nat.zero_le _⟩)⟩
  | pwNew => exact ⟨_, rfl, moves_needLength fun hn => Move.ends (.writer fun _ => ⟨zeroBytes_legal hn, Nat.zero_le _⟩)⟩
  | pwPokeU8 | pwPokeS8 | pwPokeU16LE | pwPokeS16LE | pwPokeU16BE | pwPokeS16BE | pwPokeU32LE | pwPokeS32LE
  | pwPokeU32BE | pwPokeS32BE | pwPokeF32 | pwPokeF64 | pwPokeChar => exact ⟨_, rfl, moves_pokeScalar _ _ _ s⟩
  | pwPokeBytes => exact ⟨_, rfl, moves_needObject (moves_needLength fun _ => moves_pokeRaw _ _ s)⟩
  | pwWriteU8 | pwWriteS8 | pwWriteU16LE | pwWriteS16LE | pwWriteU16BE | pwWriteS16BE | pwWriteU32LE | pwWriteS32LE
  | pwWriteU32BE | pwWriteS32BE | pwWriteF32 | pwWriteF64 | pwWriteChar => exact ⟨_, rfl, moves_writeScalar _ _ s⟩
  | pwWriteBytes => exact ⟨_, rfl, moves_needObject (moves_needLength fun _ => moves_writeRaw _ s)⟩
  | frmNew => exact ⟨_, rfl, moves_frmNewOp _ _ _ s⟩
  | frmSerialize => exact ⟨_, rfl, moves_needObject (Move.ends (.frame frameOk_memoize))⟩
  | frmChecksum => exact ⟨_, rfl, moves_needObject (Move.ends (.frame frameOk_memoizeCks))⟩
  | frmDeserialize => exact ⟨_, rfl, moves_needLength fun _ => moves_loadFrame _ s⟩
  | txnNew => exact ⟨_, rfl, Move.ends (.builder fun _ _ hg => absurd hg List.not_mem_nil)⟩
  | txnWith => exact ⟨_, rfl, moves_needObject (moves_needAddress (Move.ends (.builder fun hs => hs)))⟩
  | txnWrite => exact ⟨_, rfl, moves_needObject (moves_needAddress (moves_needLength fun hn => moves_appendSegment _ _ hn s))⟩
  | txnRead =>
    exact ⟨_, rfl, moves_needObject (moves_needAddress (moves_needLength fun hn =>
      moves_appendSegment _ _ (zeroBytes_legal hn) s))⟩
  | txnWrited =>
    exact ⟨_, rfl, moves_needObject (moves_needDefault fun _ => moves_needLength fun hn => moves_appendSegment _ _ hn s)⟩
  | txnReadd =>
    exact ⟨_, rfl, moves_needObject (moves_needDefault fun _ => moves_needLength fun hn =>
      moves_appendSegment _ _ (zeroBytes_legal hn) s)⟩
  | txnBuild => exact ⟨_, rfl, moves_needObject (moves_txnBuild s)⟩
  | busOpen => exact ⟨_, rfl, moves_portCommand _ free fun _ _ => .opened⟩
  | busClose => exact ⟨_, rfl, moves_portCommand _ free fun _ _ => .closed⟩
  | busSubmit =>
    refine ⟨_, rfl, moves_needObject ?_⟩
    split
    · exact moves_withResult s _
    · exact moves_submitRun free
  | tpConfig => exact ⟨_, rfl, moves_needAddress (Move.ends (.transport _))⟩
  | tpSend => exact ⟨_, rfl, moves_needConfigured (moves_needObject (moves_sendOp free))⟩
  | tpPoll => exact ⟨_, rfl, moves_needConfigured (moves_pollOp free)⟩

/-- Every step that answers a next state is a sequence of moves: it takes a hand-over and runs or refuses it, or does nothing. -/
theorem step_moves {s t : State} (h : step s = .next t) : Moves s t := by
  obtain ⟨free, ⟨-, rfl⟩ | ⟨bytes, more, i, rest, -, -, hexec⟩ | ⟨r, more, rfl⟩⟩ := step_cases h
  · exact .refl
  · obtain ⟨t', hexec', hmoves⟩ := exec_moves i (s := s.withCmdIn (leftOver rest more)) free
    obtain rfl : t' = t := Host.Outcome.next.inj (hexec'.symm.trans hexec)
    exact .head (.queue _) hmoves
  · exact Move.ends (.queue _)

/-- Settles O56: a step is a sequence of moves, and each keeps its unit legal and the parameters of the build. -/
theorem everyStepKeepsBuffersAndMemo : Obligations.EveryStepKeepsBuffersAndMemo :=
  fun _ _ hs h => ⟨(step_moves h).slotsOk hs, (step_moves h).build_eq⟩

/-- Settles O57: a step is a sequence of moves, and those of the bus side are runs of the driver, which stop what they start. -/
theorem everyStepStopsWhatItStarts : Obligations.EveryStepStopsWhatItStarts :=
  fun _ _ hs h => (step_moves h).busOk hs

end Sys2Proof.Machine
end

section
/-! PROOFS of the statements about the state (10_state.md), fourth part: reset (R43), the packed reader and writer at their cursors
(R23 to R26), the frame slot (R30 to R33), the built transaction (R34 to R36) and the transport registers (R40). -/

namespace Sys2Proof.Machine

open Sys2Proof.Claim

/-! ## Reset (R43) -/

/-- Settles O9, field by field. -/
theorem resetLeavesNothingUsable : Obligations.ResetLeavesNothingUsable :=
  ⟨fun _ => ⟨rfl, rfl, rfl, rfl, rfl, rfl, rfl, rfl, rfl, rfl, rfl, rfl⟩, rfl, rfl, rfl⟩

theorem resetOf_slotsOk (d : Build) : slotsOk (State.resetOf d) := by
  have hempty : segmentsOk [] := fun _ hg => absurd hg List.not_mem_nil
  have hbuf : ([] : List Byte).length < 2 ^ 31 := by decide
  exact ⟨⟨hbuf, le_rfl⟩, ⟨hbuf, le_rfl⟩, hempty, hempty, Nat.zero_le _, nofun, nofun, nofun⟩

theorem resetOf_busOk (d : Build) : busOk (State.resetOf d) :=
  (Bus.rests_iff_of_free rfl).2 ⟨⟨rfl, rfl⟩, rfl⟩

/-- Settles O55: the slots are empty, the engine is idle and the history holds no call. -/
theorem resetMeetsTheInvariants : Obligations.ResetMeetsTheInvariants :=
  ⟨fun d => ⟨resetOf_slotsOk d, resetOf_busOk d⟩, resetOf_slotsOk _, resetOf_busOk _⟩

/-! ## Binding a reader, a writer, a frame and the transport registers -/

/-- Settles O13: `PR.NEW` is its range check and the new reader. -/
theorem readerNewBindsACopy : Obligations.ReaderNewBindsACopy := fun s _ =>
  ⟨fun h => congrArg _ (needLength_ok h s _), fun h => congrArg _ (needLength_bad h s _)⟩

/-- Settles O22: `PW.NEW` is its range check and the new writer. -/
theorem writerNewIsZeroed : Obligations.WriterNewIsZeroed := fun s _ =>
  ⟨fun h => congrArg _ (needLength_ok h s _), fun h => congrArg _ (needLength_bad h s _)⟩

theorem frmNewOp_short {p : List Byte} (h : p.length ≤ 65535) (c i : Byte) (s : State) :
    frmNewOp c i p s = (s.withFrm ⟨true, c, i, p, none, none⟩).withResult (some .ok) := by
  rw [frmNewOp, needLength_ok (by omega)]
  exact if_neg (Nat.not_lt.2 h)

theorem frmNewOp_long {p : List Byte} (h : 65536 ≤ p.length) (h' : p.length < 2 ^ 31) (c i : Byte) (s : State) :
    frmNewOp c i p s = s.withResult (some (.fault (.frameTooLong p.length))) := by
  rw [frmNewOp, needLength_ok h']
  exact if_pos h

/-- Settles O31: the two limits of `FRM.NEW` cut the lengths into three ranges. -/
theorem frameNewChecksThePayloadLength : Obligations.FrameNewChecksThePayloadLength := fun s c i _ =>
  ⟨fun h => congrArg _ (frmNewOp_short h c i s), fun h h' => congrArg _ (frmNewOp_long h h' c i s),
    fun h => congrArg _ (needLength_bad h s _)⟩

/-- An operand that is the number of an address names that address. -/
theorem toAddr_eq {addr : Byte} {a : Addr} (h : addr.toNat = a.toNat) : addr.toNat ≤ 127 ∧ toAddr addr = a := by
  have hle : addr.toNat ≤ 127 := by omega
  exact ⟨hle, BitVec.eq_of_toNat_eq ((toAddr_toNat addr hle).trans h)⟩

/-- Settles O46: the operand is in range, and the address it names is the one stored. -/
theorem transportConfigSetsBothRegisters : Obligations.TransportConfigSetsBothRegisters := by
  intro s addr a ceiling h
  obtain ⟨hle, rfl⟩ := toAddr_eq h
  exact congrArg _ (needAddress_ok hle s _)

/-! ## The packed reader at its cursor (R24, 41_packed_reader.md R111) -/

theorem fieldWidth_pos (t : FieldType) : 0 < fieldWidth t := by cases t <;> decide

/-- A scalar read whose bytes lie in the buffer. -/
theorem readScalar_ok {s : State} (t : FieldType) {raw : List Byte} (hv : s.pr.valid = true)
    (hraw : memRead s.pr.buf s.pr.cur (fieldWidth t) = raw) (hl : raw.length = fieldWidth t) :
    readScalar t s = (s.withPr { s.pr with cur := s.pr.cur + fieldWidth t }).withResult (some (.value (fieldConv t raw))) := by
  rcases readScalar_cases t s with ⟨h, -⟩ | ⟨-, -, e⟩ | ⟨-, hlt, -⟩
  · rw [hv] at h; cases h
  · rw [e, hraw]
  · rw [← hraw, memRead, List.length_take, List.length_drop] at hl
    have := fieldWidth_pos t
    omega

/-- A command that is a scalar read, where the bytes of the field stand at the cursor. -/
theorem readsValue_of_memRead {i : Instr} {s : State} (t : FieldType) {raw : List Byte} {v : Value}
    (hi : exec i s = .next (readScalar t s)) (hv : s.pr.valid = true)
    (hraw : memRead s.pr.buf s.pr.cur (fieldWidth t) = raw) (hl : raw.length = fieldWidth t) (hc : fieldConv t raw = v) :
    readsValue i s (fieldWidth t) v := by
  rw [readsValue, hi, readScalar_ok t hv hraw hl, hc]

theorem sext_8 (v : Nat) : sext 8 v = signed8 v := by simp [sext, signed8]
theorem sext_16 (v : Nat) : sext 16 v = signed16 v := by simp [sext, signed16]
theorem sext_32 (v : Nat) : sext 32 v = signed32 v := by simp [sext, signed32]

theorem ofLe_one (x : Byte) : ofLe [x] = x.toNat := rfl

theorem ofLe_pair (x0 x1 : Byte) : ofLe [x0, x1] = x0.toNat + 256 * x1.toNat := rfl

theorem ofBe_pair (x0 x1 : Byte) : ofBe [x0, x1] = 256 * x0.toNat + x1.toNat := Nat.add_comm ..

theorem ofLe_quad (x0 x1 x2 x3 : Byte) :
    ofLe [x0, x1, x2, x3] = x0.toNat + 256 * x1.toNat + 65536 * x2.toNat + 16777216 * x3.toNat := by
  simp only [ofLe]; omega

theorem ofBe_quad (x0 x1 x2 x3 : Byte) :
    ofBe [x0, x1, x2, x3] = 16777216 * x0.toNat + 65536 * x1.toNat + 256 * x2.toNat + x3.toNat := by
  rw [ofBe, show [x0, x1, x2, x3].reverse = [x3, x2, x1, x0] from rfl, ofLe_quad]
  omega

/-- A 32-bit pattern made of its bytes. -/
theorem ofNat_ofLe_quad (x0 x1 x2 x3 : Byte) : BitVec.ofNat 32 (ofLe [x0, x1, x2, x3]) = x3 ++ x2 ++ x1 ++ x0 := by
  rw [← ofLe_four, BitVec.ofNat_toNat, BitVec.setWidth_eq]

/-- A 64-bit pattern made of its bytes. -/
theorem ofNat_ofLe_octet (x0 x1 x2 x3 x4 x5 x6 x7 : Byte) :
    BitVec.ofNat 64 (ofLe [x0, x1, x2, x3, x4, x5, x6, x7]) = x7 ++ x6 ++ x5 ++ x4 ++ x3 ++ x2 ++ x1 ++ x0 := by
  rw [← ofLe_eight, BitVec.ofNat_toNat, BitVec.setWidth_eq]

/-- Settles O18, by the four widths: the bytes at the cursor are the field's bytes, and each type converts them by their weights. -/
theorem readScalarFieldsAdvanceTheCursor : Obligations.ReadScalarFieldsAdvanceTheCursor := by
  refine ⟨fun s x hv h => ?_, fun s x0 x1 hv h0 h1 => ?_, fun s x0 x1 x2 x3 hv h0 h1 h2 h3 => ?_,
    fun s x0 x1 x2 x3 x4 x5 x6 x7 hv h => ?_⟩
  · have hraw : memRead s.pr.buf s.pr.cur 1 = [x] := by rw [memRead_cons h, memRead_zero]
    exact ⟨readsValue_of_memRead .u8 rfl hv hraw rfl rfl,
      readsValue_of_memRead .s8 rfl hv hraw rfl (by rw [fieldConv, sext_8, ofLe_one]),
      readsValue_of_memRead .char rfl hv hraw rfl (by rw [fieldConv, ofLe_one, BitVec.ofNat_toNat, BitVec.setWidth_eq])⟩
  · have hraw : memRead s.pr.buf s.pr.cur 2 = [x0, x1] := by rw [memRead_cons h0, memRead_cons h1, memRead_zero]
    exact ⟨readsValue_of_memRead .u16le rfl hv hraw rfl rfl,
      readsValue_of_memRead .s16le rfl hv hraw rfl (by rw [fieldConv, sext_16, ofLe_pair]),
      readsValue_of_memRead .u16be rfl hv hraw rfl (by rw [fieldConv, ofBe_pair]),
      readsValue_of_memRead .s16be rfl hv hraw rfl (by rw [fieldConv, sext_16, ofBe_pair])⟩
  · have hraw : memRead s.pr.buf s.pr.cur 4 = [x0, x1, x2, x3] := by
      rw [memRead_cons h0, memRead_cons h1, memRead_cons h2, memRead_cons h3, memRead_zero]
    exact ⟨readsValue_of_memRead .u32le rfl hv hraw rfl (by rw [fieldConv, ofLe_quad]),
      readsValue_of_memRead .s32le rfl hv hraw rfl (by rw [fieldConv, sext_32, ofLe_quad]),
      readsValue_of_memRead .u32be rfl hv hraw rfl (by rw [fieldConv, ofBe_quad]),
      readsValue_of_memRead .s32be rfl hv hraw rfl (by rw [fieldConv, sext_32, ofBe_quad]),
      readsValue_of_memRead .f32 rfl hv hraw rfl (by rw [fieldConv, ofNat_ofLe_quad])⟩
  · exact readsValue_of_memRead .f64 rfl hv h rfl (by rw [fieldConv, ofNat_ofLe_octet])

/-! ## The packed writer at its cursor (R26, 42_packed_writer.md R151) -/

/-- Setting bytes one by one is one write of them. -/
theorem setBytes_eq_memWrite (buf : List Byte) (k : Nat) (xs : List Byte) (h : k + xs.length ≤ buf.length) :
    setBytes buf k xs = memWrite buf k xs := by
  induction xs generalizing buf k with
  | nil => simp [setBytes, memWrite]
  | cons x xs ih =>
    rw [List.length_cons] at h
    rw [setBytes, memWrite_cons buf k x xs h, ih _ _ (by rw [List.length_set]; omega)]

/-- Byte `j` of a pattern is its `j`-th digit to the base 256. -/
theorem byteOf_eq {n : Nat} (v : BitVec n) (j : Nat) : byteOf v j = BitVec.ofNat 8 (v.toNat / 256 ^ j) := by
  apply BitVec.eq_of_toNat_eq
  rw [byteOf, BitVec.extractLsb'_toNat, BitVec.toNat_ofNat, Nat.shiftRight_eq_div_pow, Nat.pow_mul]

/-- The low bytes of a number are its digits to the base 256. -/
theorem leBytes_eq (w v : Nat) : leBytes w v = (List.range w).map fun j => BitVec.ofNat 8 (v / 256 ^ j) := by
  induction w generalizing v with
  | zero => rfl
  | succ w ih =>
    rw [leBytes, ih, List.range_succ_eq_map, List.map_cons, List.map_map]
    simp [Function.comp_def, Nat.div_div_eq_div_mul, Nat.pow_succ, Nat.mul_comm]

theorem leBytes_byteOf {n : Nat} (w : Nat) (v : BitVec n) : leBytes w v.toNat = (List.range w).map (byteOf v) := by
  rw [leBytes_eq]
  exact List.map_congr_left fun j _ => (byteOf_eq v j).symm

/-- A scalar write whose bytes fit. -/
theorem writeScalar_ok {s : State} {t : FieldType} {val : Nat} {xs : List Byte} (hv : s.pw.valid = true)
    (hxs : fieldBytes t val = xs) (hfit : s.pw.cur + fieldWidth t ≤ s.pw.buf.length) :
    writeScalar t val s = (s.withPw { s.pw with buf := setBytes s.pw.buf s.pw.cur xs, cur := s.pw.cur + fieldWidth t }).withResult
      (some .ok) := by
  have hl : xs.length = fieldWidth t := hxs ▸ fieldBytes_length t val
  rw [writeScalar, hv, needObject_true, hxs]
  rcases writeRaw_cases xs s with ⟨hle, e⟩ | ⟨hlt, -⟩
  · rw [e, setBytes_eq_memWrite _ _ _ hle, hl]
  · omega

/-- A command that is a scalar write, where its bytes fit at the cursor. -/
theorem writes_of_fits {i : Instr} {s : State} (t : FieldType) {val : Nat} {xs : List Byte}
    (hi : exec i s = .next (writeScalar t val s)) (hv : s.pw.valid = true) (hxs : fieldBytes t val = xs)
    (hfit : s.pw.cur + fieldWidth t ≤ s.pw.buf.length) :
    writes i s (fieldWidth t) (setBytes s.pw.buf s.pw.cur xs) := by
  rw [writes, hi, writeScalar_ok hv hxs hfit]

theorem beBytes_byteOf {n : Nat} (w : Nat) (v : BitVec n) : beBytes w v.toNat = ((List.range w).map (byteOf v)).reverse := by
  rw [beBytes, leBytes_byteOf]

/-- Settles O24, by the four widths: each type's bytes are the bytes of its pattern in its order. -/
theorem writeScalarFieldsStoreAndAdvance : Obligations.WriteScalarFieldsStoreAndAdvance := by
  intro s v8 v16 v32 v64 hv
  refine ⟨fun h => ?_, fun h => ?_, fun h => ?_, fun h => ?_⟩
  · have hle := leBytes_byteOf 1 v8
    exact ⟨writes_of_fits .u8 rfl hv hle h, writes_of_fits .s8 rfl hv hle h, writes_of_fits .char rfl hv hle h⟩
  · have hle := leBytes_byteOf 2 v16
    have hbe := beBytes_byteOf 2 v16
    exact ⟨writes_of_fits .u16le rfl hv hle h, writes_of_fits .s16le rfl hv hle h, writes_of_fits .u16be rfl hv hbe h,
      writes_of_fits .s16be rfl hv hbe h⟩
  · have hle := leBytes_byteOf 4 v32
    have hbe := beBytes_byteOf 4 v32
    exact ⟨writes_of_fits .u32le rfl hv hle h, writes_of_fits .s32le rfl hv hle h, writes_of_fits .u32be rfl hv hbe h,
      writes_of_fits .s32be rfl hv hbe h, writes_of_fits .f32 rfl hv hle h⟩
  · exact writes_of_fits .f64 rfl hv (leBytes_byteOf 8 v64) h

/-! ## The frame slot's memo (R32, R33, 43_frame_codec.md R193, R194) -/

/-- Memo fields that are not stale, once set, are the recomputed ones. -/
theorem memoize_eq {cfg : Config} {f : FrameSlot} (h : frameOk cfg f) :
    memoize cfg f = { f with
      ser := some (serFrame cfg f.cls f.id f.payload), ck := some (cksOver cfg (frameBody f.cls f.id f.payload)) } := by
  obtain ⟨-, hser, hck, hboth⟩ := h
  cases hs : f.ser with
  | none => simp [memoize, hs, storedCks_serFrame]
  | some xs =>
    obtain ⟨c, hc⟩ := Option.isSome_iff_exists.1 (hboth (hs ▸ rfl))
    simp only [memoize, hs]
    rw [← hser xs hs, ← hck c hc, ← hs, ← hc]

theorem memoizeCks_eq {cfg : Config} {f : FrameSlot} (h : frameOk cfg f) :
    memoizeCks cfg f = { f with ck := some (cksOver cfg (frameBody f.cls f.id f.payload)) } := by
  obtain ⟨-, -, hck, -⟩ := h
  cases hc : f.ck with
  | none => simp [memoizeCks, hc]
  | some c =>
    simp only [memoizeCks, hc]
    rw [← hck c hc, ← hc]

theorem frmSerialize_ok {s : State} (hv : s.frm.valid = true) (hf : frameOk s.cfg s.frm) :
    exec .frmSerialize s = .next ((s.withFrm { s.frm with
        ser := some (serFrame s.cfg s.frm.cls s.frm.id s.frm.payload),
        ck := some (cksOver s.cfg (frameBody s.frm.cls s.frm.id s.frm.payload)) }).withResult
      (some (.value (.bytes (serFrame s.cfg s.frm.cls s.frm.id s.frm.payload))))) := by
  rw [exec_frmSerialize, hv, needObject_true, memoize_eq hf]
  rfl

theorem frmChecksum_ok {s : State} (hv : s.frm.valid = true) (hf : frameOk s.cfg s.frm) :
    exec .frmChecksum s = .next ((s.withFrm { s.frm with
        ck := some (cksOver s.cfg (frameBody s.frm.cls s.frm.id s.frm.payload)) }).withResult
      (some (.value (.bits16 (cksOver s.cfg (frameBody s.frm.cls s.frm.id s.frm.payload)))))) := by
  rw [exec_frmChecksum, hv, needObject_true, memoizeCks_eq hf]
  rfl

/-- Settles O32: each command leaves a slot whose memo is not stale, so that a second call finds what a recomputation gives. -/
theorem serializeAndChecksumMemoize : Obligations.SerializeAndChecksumMemoize := by
  intro s hv hf bytes ck
  have hser := frmSerialize_ok hv hf
  have hcks := frmChecksum_ok hv hf
  have hf₁ := frameOk_memoize hf
  have hf₂ := frameOk_memoizeCks hf
  rw [memoize_eq hf] at hf₁
  rw [memoizeCks_eq hf] at hf₂
  refine ⟨hser, hcks, fun t ht => ?_, fun t ht => ?_⟩
  · obtain rfl := Host.Outcome.next.inj (hser.symm.trans ht)
    exact ⟨frmSerialize_ok hv hf₁, frmChecksum_ok hv hf₁⟩
  · obtain rfl := Host.Outcome.next.inj (hcks.symm.trans ht)
    exact frmChecksum_ok hv hf₂

/-! ## The built transaction (R34 to R36) -/

theorem runUntil_cons {i : Instr} {is : List Instr} {s t : State} (h : exec i s = .next t) :
    runUntil (fun _ => false) (i :: is) s = runUntil (fun _ => false) is t := by
  simp [runUntil, h]

/-- The builder command of a segment appends that segment. -/
theorem exec_appendCommand {g : Segment} (hl : g.data.length < 2 ^ 31)
    (hz : g.dir = .read → g.data = List.replicate g.data.length 0) {s : State} (hv : s.tb.valid = true) :
    exec (appendCommand g) s = .next ((s.withTb { s.tb with segs := s.tb.segs ++ [g] }).withResult (some .ok)) := by
  obtain ⟨dir, addr, data⟩ := g
  obtain ⟨hle, haddr⟩ := toAddr_eq (addr := addr.setWidth 8) (a := addr) (by simp; omega)
  cases dir with
  | write =>
    rw [show appendCommand ⟨.write, addr, data⟩ = .txnWrite (addr.setWidth 8) data from rfl, exec_txnWrite, hv, needObject_true,
      needAddress_ok hle, needLength_ok hl, haddr]
    rfl
  | read =>
    have hn : (BitVec.ofNat 32 data.length).toNat = data.length :=
      (BitVec.toNat_ofNat ..).trans (Nat.mod_eq_of_lt (hl.trans (by decide)))
    have hd : zeroBytes data.length = data := (hz rfl).symm
    rw [show appendCommand ⟨.read, addr, data⟩ = .txnRead (addr.setWidth 8) (BitVec.ofNat 32 data.length) from rfl, exec_txnRead,
      hv, needObject_true, needAddress_ok hle, hn, needLength_ok hl, haddr, hd]
    rfl

/-- From a valid builder, the commands of some segments and then `TXN.BUILD` freeze its list with these segments behind it. -/
theorem runUntil_appendCommands (gs : List Segment)
    (h : ∀ g ∈ gs, g.data.length < 2 ^ 31 ∧ (g.dir = .read → g.data = List.replicate g.data.length 0))
    (s : State) (hv : s.tb.valid = true) :
    ∃ t, runUntil (fun _ => false) (gs.map appendCommand ++ [.txnBuild]) s = .next t ∧
      t.txn = ⟨true, s.tb.segs ++ gs, false⟩ ∧ t.tb.valid = false ∧ t.bus = s.bus ∧ t.frm = s.frm := by
  induction gs generalizing s with
  | nil =>
    have hbuild : exec .txnBuild s = .next ((s.withTxn ⟨true, s.tb.segs, false⟩).withTb { s.tb with valid := false }).ok := by
      rw [exec_txnBuild, hv, needObject_true]
    exact ⟨_, runUntil_cons hbuild, by simp, rfl, rfl, rfl⟩
  | cons g gs ih =>
    obtain ⟨hl, hz⟩ := h g (.head _)
    obtain ⟨t, hrun, htxn, htb, hbus, hfrm⟩ := ih (fun g' hg' => h g' (.tail _ hg'))
      ((s.withTb { s.tb with segs := s.tb.segs ++ [g] }).withResult (some .ok)) hv
    exact ⟨t, (runUntil_cons (exec_appendCommand hl hz hv)).trans hrun, by simpa using htxn, htb, hbus, hfrm⟩

/-- Settles O36: after `TXN.NEW` the builder's list is empty, and each command appends behind what is there. -/
theorem builtTransactionKeepsInsertionOrder : Obligations.BuiltTransactionKeepsInsertionOrder := by
  intro s gs h
  obtain ⟨t, hrun, htxn, htb, hbus, hfrm⟩ := runUntil_appendCommands gs h ((s.withTb ⟨true, [], none⟩).withResult (some .ok)) rfl
  exact ⟨t, (runUntil_cons (exec_txnNew s)).trans hrun, htxn, htb, hbus, hfrm⟩

/-! ## What the transport adapter may touch (R22, R36, 46_transport_and_registry.md R250) -/

/-- The state with the units that a transport command may change blanked out: the frame slot, the bus side and the result. -/
def State.blanked (s : State) : State := ((s.withFrm default).withBus default).withResult none

/-- Where the blanked states agree, every other unit does. -/
theorem State.eq_of_blanked {s t : State} (h : t.blanked = s.blanked) :
    t.build = s.build ∧ t.cks = s.cks ∧ t.pr = s.pr ∧ t.pw = s.pw ∧ t.tb = s.tb ∧ t.txn = s.txn ∧ t.tp = s.tp ∧ t.cmdIn = s.cmdIn :=
  ⟨congrArg (·.build) h, congrArg (·.cks) h, congrArg (·.pr) h, congrArg (·.pw) h, congrArg (·.tb) h, congrArg (·.txn) h,
    congrArg (·.tp) h, congrArg (·.cmdIn) h⟩

theorem transact_blanked (segs : List Segment) (s : State) {k : List Segment → State → State}
    (hk : ∀ segs t, (k segs t).blanked = t.blanked) : (transact segs s k).blanked = s.blanked := by
  rcases transact_cases segs s k with ⟨segs', b, -, e⟩ | ⟨f, segs', b, -, e⟩ | ⟨segs', b, -, e⟩ <;> rw [e]
  · exact hk segs' (s.withBus b)
  · rfl
  · rfl

theorem sendOp_blanked (s : State) : (sendOp s).blanked = s.blanked := transact_blanked _ _ fun _ _ => rfl

theorem loadFrame_blanked (cfg : Config) (raw : List Byte) (s : State) : (loadFrame cfg raw s).blanked = s.blanked := by
  rcases loadFrame_cases cfg raw s with ⟨-, e⟩ | ⟨p, -, e⟩ <;> rw [e] <;> rfl

theorem pollRead_blanked (count : Nat) (s : State) : (pollRead count s).blanked = s.blanked := by
  refine transact_blanked _ _ fun segs t => ?_
  split
  · rfl
  · exact loadFrame_blanked ..

theorem pollOp_blanked (s : State) : (pollOp s).blanked = s.blanked := by
  refine transact_blanked _ _ fun segs t => ?_
  split
  · rfl
  · exact pollRead_blanked ..

/-- Whatever its transaction does, a send leaves the memoized frame slot. -/
theorem sendOp_frm (s : State) : (sendOp s).frm = memoize s.cfg s.frm := by
  unfold sendOp
  rcases transact_cases _ (s.withFrm (memoize s.cfg s.frm)) (fun _ t => t.ok) with
    ⟨segs', b, -, e⟩ | ⟨f, segs', b, -, e⟩ | ⟨segs', b, -, e⟩ <;> rw [e] <;> rfl

theorem memoize_memos (cfg : Config) (f : FrameSlot) :
    memoize cfg f = { f with ser := (memoize cfg f).ser, ck := (memoize cfg f).ck } := by
  unfold memoize
  split <;> rfl

/-- `TP.SEND` is refused from the state as it is, or is a send. -/
theorem tpSend_cases (s : State) :
    (∃ r, exec .tpSend s = .next (s.withResult (some (.refused r)))) ∨ exec .tpSend s = .next (sendOp s) := by
  rw [exec_tpSend]
  rcases needConfigured_cases s fun s => needObject s.frm.valid s fun s => sendOp s with ⟨-, e⟩ | ⟨-, e⟩ <;> rw [e]
  · rcases needObject_cases s.frm.valid s fun s => sendOp s with ⟨-, e⟩ | ⟨-, e⟩ <;> rw [e]
    · exact .inr rfl
    · exact .inl ⟨_, rfl⟩
  · exact .inl ⟨_, rfl⟩

/-- `TP.POLL` is refused from the state as it is, or is a poll. -/
theorem tpPoll_cases (s : State) :
    (∃ r, exec .tpPoll s = .next (s.withResult (some (.refused r)))) ∨ exec .tpPoll s = .next (pollOp s) := by
  rw [exec_tpPoll]
  rcases needConfigured_cases s fun s => pollOp s with ⟨-, e⟩ | ⟨-, e⟩ <;> rw [e]
  · exact .inr rfl
  · exact .inl ⟨_, rfl⟩

theorem tpSend_frame (s : State) :
    ∃ t, exec .tpSend s = .next t ∧ t.blanked = s.blanked ∧ t.frm = { s.frm with ser := t.frm.ser, ck := t.frm.ck } := by
  rcases tpSend_cases s with ⟨r, e⟩ | e
  · exact ⟨_, e, rfl, rfl⟩
  · exact ⟨_, e, sendOp_blanked s, by rw [sendOp_frm]; exact memoize_memos ..⟩

theorem tpPoll_frame (s : State) : ∃ t, exec .tpPoll s = .next t ∧ t.blanked = s.blanked := by
  rcases tpPoll_cases s with ⟨r, e⟩ | e
  · exact ⟨_, e, rfl⟩
  · exact ⟨_, e, pollOp_blanked s⟩

/-- Settles O51: transactions change the bus side alone, and what follows them the frame slot and the result. -/
theorem transportLeavesTheOtherUnitsAlone : Obligations.TransportLeavesTheOtherUnitsAlone := by
  intro s
  obtain ⟨t, ht, hblank, hfrm⟩ := tpSend_frame s
  obtain ⟨u, hu, hblank'⟩ := tpPoll_frame s
  obtain ⟨hbuild, hcks, hpr, hpw, htb, htxn, htp, hcmd⟩ := State.eq_of_blanked hblank
  exact ⟨⟨t, ht, hbuild, hcks, hpr, hpw, htb, htxn, htp, hcmd, hfrm⟩, u, hu, State.eq_of_blanked hblank'⟩

end Sys2Proof.Machine
end

section
/-! PROOFS of the statements about memory (20_memory.md), first part: the packed reader at an offset operand (R52, R53), and both of
its cursors' faults. -/

namespace Sys2Proof.Machine

open Sys2Proof.Claim

/-! ## Offset operands (R52, R53) -/

/-- The position an offset operand names is its effective offset. -/
theorem offsetIs_iff (off : Word32) (len k : Nat) : offsetIs off len k ↔ effOff off.toInt len = (k : Int) := Iff.rfl

/-- The bytes at an offset operand that do not all lie in the buffer are out of the range of the model. -/
theorem offsetBad_iff (off : Word32) (len n : Nat) : offsetBad off len n ↔ inRange (effOff off.toInt len) n len = false := by
  rw [← Bool.not_eq_true, inRange_iff, not_and_or, not_le, not_le]
  exact Iff.rfl

theorem inRange_of_offsetIs {off : Word32} {len k n : Nat} (h : offsetIs off len k) (hfit : k + n ≤ len) :
    inRange (effOff off.toInt len) n len = true := by
  rw [(offsetIs_iff off len k).1 h]
  exact (inRange_nat k n len).2 hfit

theorem offsetBad_of_offsetIs {off : Word32} {len k n : Nat} (h : offsetIs off len k) (hlt : len < k + n) :
    offsetBad off len n := by
  rw [offsetBad_iff, (offsetIs_iff off len k).1 h, ← Bool.not_eq_true, inRange_nat]
  exact Nat.not_le.2 hlt

/-- The offset operand that holds a small integer. -/
theorem toInt_ofInt_offset {v : Int} (h : -2 ^ 31 ≤ v) (h' : v < 2 ^ 31) : (BitVec.ofInt 32 v).toInt = v :=
  BitVec.toInt_ofInt_eq_self (by decide) h h'

/-- Position `k` counted from the front. -/
theorem offsetIs_front {k len : Nat} (hk : k < len) (hlen : len < 2 ^ 31) : offsetIs (BitVec.ofInt 32 k) len k := by
  rw [offsetIs_iff, toInt_ofInt_offset (by omega) (by omega)]
  exact if_pos (Int.natCast_nonneg k)

/-- Position `k` counted from the end. -/
theorem offsetIs_back {k len : Nat} (hk : k < len) (hlen : len < 2 ^ 31) :
    offsetIs (BitVec.ofInt 32 ((k : Int) - len)) len k := by
  rw [offsetIs_iff, toInt_ofInt_offset (by omega) (by omega), effOff, if_neg (by omega)]
  omega

/-! ## Scalar peeks (41_packed_reader.md R110) -/

/-- A scalar peek whose bytes lie in the buffer. -/
theorem peekScalar_ok {s : State} {off : Word32} {k : Nat} (t : FieldType) (hv : s.pr.valid = true)
    (hoff : offsetIs off s.pr.buf.length k) (hfit : k + fieldWidth t ≤ s.pr.buf.length) :
    peekScalar t off s = s.withResult (some (.value (fieldConv t (memRead s.pr.buf k (fieldWidth t))))) := by
  have hr := inRange_of_offsetIs hoff hfit
  rcases peekScalar_cases t off s with ⟨h, -⟩ | ⟨-, -, e⟩ | ⟨-, h, -⟩
  · rw [hv] at h; cases h
  · rw [e, (offsetIs_iff off _ k).1 hoff, Int.toNat_natCast]
  · rw [hr] at h; cases h

/-- A scalar peek whose bytes do not all lie in the buffer. -/
theorem peekScalar_bad {s : State} {off : Word32} (t : FieldType) (hv : s.pr.valid = true)
    (hbad : offsetBad off s.pr.buf.length (fieldWidth t)) :
    peekScalar t off s = s.withResult (some (.fault (.boundsError off.toInt (fieldWidth t)))) := by
  have hr := (offsetBad_iff off _ _).1 hbad
  rcases peekScalar_cases t off s with ⟨h, -⟩ | ⟨-, h, -⟩ | ⟨-, -, e⟩
  · rw [hv] at h; cases h
  · rw [hr] at h; cases h
  · exact e

/-- Bytes read in full lie in the buffer. -/
theorem le_of_memRead {buf raw : List Byte} {k n : Nat} (hraw : memRead buf k n = raw) (hl : raw.length = n) (hn : 0 < n) :
    k + n ≤ buf.length := by
  rw [← hraw, memRead, List.length_take, List.length_drop] at hl
  omega

/-- A command that is a scalar peek, where the bytes of the field stand at the offset operand. -/
theorem peeks_of_memRead {i : Instr} {s : State} {off : Word32} {k : Nat} (t : FieldType) {raw : List Byte} {v : Value}
    (hi : exec i s = .next (peekScalar t off s)) (hv : s.pr.valid = true) (hoff : offsetIs off s.pr.buf.length k)
    (hraw : memRead s.pr.buf k (fieldWidth t) = raw) (hl : raw.length = fieldWidth t) (hc : fieldConv t raw = v) :
    onlyResult i s (.value v) := by
  rw [onlyResult, hi, peekScalar_ok t hv hoff (le_of_memRead hraw hl (fieldWidth_pos t)), hraw, hc]

/-- A command that is a scalar peek, where they do not. -/
theorem peeks_of_bad {i : Instr} {s : State} {off : Word32} (t : FieldType) (hi : exec i s = .next (peekScalar t off s))
    (hv : s.pr.valid = true) (hbad : offsetBad off s.pr.buf.length (fieldWidth t)) :
    onlyResult i s (.fault (.boundsError off.toInt (fieldWidth t))) := by
  rw [onlyResult, hi, peekScalar_bad t hv hbad]

/-! ## The value of a field by the weights of its bytes (R113 to R125) -/

theorem fieldConv_u8 (x : Byte) : fieldConv .u8 [x] = .int x.toNat := rfl

theorem fieldConv_s8 (x : Byte) : fieldConv .s8 [x] = .int (signed8 x.toNat) := by rw [fieldConv, sext_8, ofLe_one]

theorem fieldConv_char (x : Byte) : fieldConv .char [x] = .char x := by
  rw [fieldConv, ofLe_one, BitVec.ofNat_toNat, BitVec.setWidth_eq]

theorem fieldConv_u16le (x0 x1 : Byte) : fieldConv .u16le [x0, x1] = .int (x0.toNat + 256 * x1.toNat : Nat) := rfl

theorem fieldConv_s16le (x0 x1 : Byte) : fieldConv .s16le [x0, x1] = .int (signed16 (x0.toNat + 256 * x1.toNat)) := by
  rw [fieldConv, sext_16, ofLe_pair]

theorem fieldConv_u16be (x0 x1 : Byte) : fieldConv .u16be [x0, x1] = .int (256 * x0.toNat + x1.toNat : Nat) := by
  rw [fieldConv, ofBe_pair]

theorem fieldConv_s16be (x0 x1 : Byte) : fieldConv .s16be [x0, x1] = .int (signed16 (256 * x0.toNat + x1.toNat)) := by
  rw [fieldConv, sext_16, ofBe_pair]

theorem fieldConv_u32le (x0 x1 x2 x3 : Byte) : fieldConv .u32le [x0, x1, x2, x3] =
    .int (x0.toNat + 256 * x1.toNat + 65536 * x2.toNat + 16777216 * x3.toNat : Nat) := by
  rw [fieldConv, ofLe_quad]

theorem fieldConv_s32le (x0 x1 x2 x3 : Byte) : fieldConv .s32le [x0, x1, x2, x3] =
    .int (signed32 (x0.toNat + 256 * x1.toNat + 65536 * x2.toNat + 16777216 * x3.toNat)) := by
  rw [fieldConv, sext_32, ofLe_quad]

theorem fieldConv_u32be (x0 x1 x2 x3 : Byte) : fieldConv .u32be [x0, x1, x2, x3] =
    .int (16777216 * x0.toNat + 65536 * x1.toNat + 256 * x2.toNat + x3.toNat : Nat) := by
  rw [fieldConv, ofBe_quad]

theorem fieldConv_s32be (x0 x1 x2 x3 : Byte) : fieldConv .s32be [x0, x1, x2, x3] =
    .int (signed32 (16777216 * x0.toNat + 65536 * x1.toNat + 256 * x2.toNat + x3.toNat)) := by
  rw [fieldConv, sext_32, ofBe_quad]

theorem fieldConv_f32 (x0 x1 x2 x3 : Byte) : fieldConv .f32 [x0, x1, x2, x3] = .bits32 (x3 ++ x2 ++ x1 ++ x0) := by
  rw [fieldConv, ofNat_ofLe_quad]

theorem fieldConv_f64 (x0 x1 x2 x3 x4 x5 x6 x7 : Byte) : fieldConv .f64 [x0, x1, x2, x3, x4, x5, x6, x7] =
    .bits64 (x7 ++ x6 ++ x5 ++ x4 ++ x3 ++ x2 ++ x1 ++ x0) := by
  rw [fieldConv, ofNat_ofLe_octet]

/-- Settles O14: the one byte at the effective offset, converted by each type. -/
theorem peekOneByteFields : Obligations.PeekOneByteFields := by
  intro s off k x hv hoff h
  have hraw : memRead s.pr.buf k 1 = [x] := by rw [memRead_cons h, memRead_zero]
  exact ⟨peeks_of_memRead .u8 rfl hv hoff hraw rfl (fieldConv_u8 x), peeks_of_memRead .s8 rfl hv hoff hraw rfl (fieldConv_s8 x),
    peeks_of_memRead .char rfl hv hoff hraw rfl (fieldConv_char x)⟩

/-- Settles O15: the two bytes from the effective offset on, converted by each type. -/
theorem peekTwoByteFields : Obligations.PeekTwoByteFields := by
  intro s off k x0 x1 hv hoff h0 h1
  have hraw : memRead s.pr.buf k 2 = [x0, x1] := by rw [memRead_cons h0, memRead_cons h1, memRead_zero]
  exact ⟨peeks_of_memRead .u16le rfl hv hoff hraw rfl (fieldConv_u16le ..),
    peeks_of_memRead .s16le rfl hv hoff hraw rfl (fieldConv_s16le ..),
    peeks_of_memRead .u16be rfl hv hoff hraw rfl (fieldConv_u16be ..),
    peeks_of_memRead .s16be rfl hv hoff hraw rfl (fieldConv_s16be ..)⟩

/-- Settles O16: the four bytes from the effective offset on, converted by each type. -/
theorem peekFourByteFields : Obligations.PeekFourByteFields := by
  intro s off k x0 x1 x2 x3 hv hoff h0 h1 h2 h3
  have hraw : memRead s.pr.buf k 4 = [x0, x1, x2, x3] := by
    rw [memRead_cons h0, memRead_cons h1, memRead_cons h2, memRead_cons h3, memRead_zero]
  exact ⟨peeks_of_memRead .u32le rfl hv hoff hraw rfl (fieldConv_u32le ..),
    peeks_of_memRead .s32le rfl hv hoff hraw rfl (fieldConv_s32le ..),
    peeks_of_memRead .u32be rfl hv hoff hraw rfl (fieldConv_u32be ..),
    peeks_of_memRead .s32be rfl hv hoff hraw rfl (fieldConv_s32be ..),
    peeks_of_memRead .f32 rfl hv hoff hraw rfl (fieldConv_f32 ..)⟩

/-- Settles O17: the premise gives the eight bytes of the field as the model reads them. -/
theorem peekEightByteField : Obligations.PeekEightByteField :=
  fun _ _ _ _ _ _ _ _ _ _ _ hv hoff hraw => peeks_of_memRead .f64 rfl hv hoff hraw rfl (fieldConv_f64 ..)

/-! ## Byte sequences (R126, R140) -/

theorem memRead_middle (pre mid post : List Byte) : memRead (pre ++ mid ++ post) pre.length mid.length = mid := by
  rw [memRead, List.append_assoc, List.drop_left, List.take_left]

theorem peekBytes_ok {s : State} {off n : Word32} {k : Nat} (hv : s.pr.valid = true) (hn : n.toNat < 2 ^ 31)
    (hoff : offsetIs off s.pr.buf.length k) (hfit : k + n.toNat ≤ s.pr.buf.length) :
    peekBytes off n s = s.withResult (some (.value (.bytes (memRead s.pr.buf k n.toNat)))) := by
  have hr := inRange_of_offsetIs hoff hfit
  rcases peekBytes_cases off n s with ⟨h, -⟩ | ⟨-, h, -⟩ | ⟨-, -, -, e⟩ | ⟨-, -, h, -⟩
  · rw [hv] at h; cases h
  · omega
  · rw [e, (offsetIs_iff off _ k).1 hoff, Int.toNat_natCast]
  · rw [hr] at h; cases h

theorem peekBytes_bad {s : State} {off n : Word32} (hv : s.pr.valid = true) (hn : n.toNat < 2 ^ 31)
    (hbad : offsetBad off s.pr.buf.length n.toNat) :
    peekBytes off n s = s.withResult (some (.fault (.boundsError off.toInt n.toNat))) := by
  have hr := (offsetBad_iff off _ _).1 hbad
  rcases peekBytes_cases off n s with ⟨h, -⟩ | ⟨-, h, -⟩ | ⟨-, -, h, -⟩ | ⟨-, -, -, e⟩
  · rw [hv] at h; cases h
  · omega
  · rw [hr] at h; cases h
  · exact e

theorem readBytes_ok {s : State} {n : Word32} (hv : s.pr.valid = true) (hn : n.toNat < 2 ^ 31)
    (hfit : s.pr.cur + n.toNat ≤ s.pr.buf.length) :
    readBytes n s = (s.withPr { s.pr with cur := s.pr.cur + n.toNat }).withResult
      (some (.value (.bytes (memRead s.pr.buf s.pr.cur n.toNat)))) := by
  rcases readBytes_cases n s with ⟨h, -⟩ | ⟨-, h, -⟩ | ⟨-, -, -, e⟩ | ⟨-, -, h, -⟩
  · rw [hv] at h; cases h
  · omega
  · exact e
  · omega

theorem readBytes_bad {s : State} {n : Word32} (hv : s.pr.valid = true) (hn : n.toNat < 2 ^ 31)
    (hlt : s.pr.buf.length < s.pr.cur + n.toNat) :
    readBytes n s = s.withResult (some (.fault (.boundsError s.pr.cur n.toNat))) := by
  rcases readBytes_cases n s with ⟨h, -⟩ | ⟨-, h, -⟩ | ⟨-, -, h, -⟩ | ⟨-, -, -, e⟩
  · rw [hv] at h; cases h
  · omega
  · omega
  · exact e

/-- A length out of range is refused before the bounds are looked at (60_exceptions.md R287). -/
theorem readerBytes_refused {s : State} {n : Word32} (hv : s.pr.valid = true) (hn : 2 ^ 31 ≤ n.toNat) (off : Word32) :
    peekBytes off n s = s.withResult (some (.refused .operandRange)) ∧
    readBytes n s = s.withResult (some (.refused .operandRange)) := by
  rw [peekBytes, readBytes, hv, needObject_true, needObject_true, needLength_bad hn, needLength_bad hn]
  exact ⟨rfl, rfl⟩

/-- Settles O19: a sub-array is the middle of a split of the buffer, and outside it the two commands fault as a scalar does. -/
theorem peekAndReadBytesCopyASubArray : Obligations.PeekAndReadBytesCopyASubArray := by
  refine ⟨fun s off n pre mid post hv hn hbuf hmid => ?_, fun s off n hv hn => ⟨fun h => ?_, fun h => ?_⟩, fun s off n hv hn => ?_⟩
  · have hread : memRead s.pr.buf pre.length n.toNat = mid := by rw [hbuf, ← hmid, memRead_middle]
    have hfit : pre.length + n.toNat ≤ s.pr.buf.length := by rw [hbuf, ← hmid]; simp
    refine ⟨fun hoff => ?_, fun hcur => ?_⟩
    · rw [onlyResult, exec_prPeekBytes, peekBytes_ok hv hn hoff hfit, hread]
    · rw [← hcur] at hread hfit
      rw [readsValue, exec_prReadBytes, readBytes_ok hv hn hfit, hread]
  · rw [onlyResult, exec_prPeekBytes, peekBytes_bad hv hn h]
  · rw [onlyResult, exec_prReadBytes, readBytes_bad hv hn h]
  · obtain ⟨hpeek, hread⟩ := readerBytes_refused hv hn off
    exact ⟨congrArg _ hpeek, congrArg _ hread⟩

/-! ## Scalar commands out of range (R53, R111) -/

/-- A command that is a scalar read, where the bytes of the field do not all lie in the buffer. -/
theorem reads_of_bad {i : Instr} {s : State} (t : FieldType) (hi : exec i s = .next (readScalar t s)) (hv : s.pr.valid = true)
    (hlt : s.pr.buf.length < s.pr.cur + fieldWidth t) :
    onlyResult i s (.fault (.boundsError s.pr.cur (fieldWidth t))) := by
  rw [onlyResult, hi]
  rcases readScalar_cases t s with ⟨h, -⟩ | ⟨-, h, -⟩ | ⟨-, -, e⟩
  · rw [hv] at h; cases h
  · omega
  · rw [e]

/-- Settles O20, by the four widths at the offset operand and at the cursor. -/
theorem readerOutOfRangeFaults : Obligations.ReaderOutOfRangeFaults := by
  refine ⟨fun s off hv => ⟨fun h => ?_, fun h => ?_, fun h => ?_, fun h => ?_⟩,
    fun s hv => ⟨fun h => ?_, fun h => ?_, fun h => ?_, fun h => ?_⟩⟩
  · exact ⟨peeks_of_bad .u8 rfl hv h, peeks_of_bad .s8 rfl hv h, peeks_of_bad .char rfl hv h⟩
  · exact ⟨peeks_of_bad .u16le rfl hv h, peeks_of_bad .s16le rfl hv h, peeks_of_bad .u16be rfl hv h,
      peeks_of_bad .s16be rfl hv h⟩
  · exact ⟨peeks_of_bad .u32le rfl hv h, peeks_of_bad .s32le rfl hv h, peeks_of_bad .u32be rfl hv h,
      peeks_of_bad .s32be rfl hv h, peeks_of_bad .f32 rfl hv h⟩
  · exact peeks_of_bad .f64 rfl hv h
  · exact ⟨reads_of_bad .u8 rfl hv h, reads_of_bad .s8 rfl hv h, reads_of_bad .char rfl hv h⟩
  · exact ⟨reads_of_bad .u16le rfl hv h, reads_of_bad .s16le rfl hv h, reads_of_bad .u16be rfl hv h,
      reads_of_bad .s16be rfl hv h⟩
  · exact ⟨reads_of_bad .u32le rfl hv h, reads_of_bad .s32le rfl hv h, reads_of_bad .u32be rfl hv h,
      reads_of_bad .s32be rfl hv h, reads_of_bad .f32 rfl hv h⟩
  · exact reads_of_bad .f64 rfl hv h

/-! ## The two spellings of a position (R141) -/

/-- A family of commands that are the peeks of one type, one for each offset operand. -/
def PeeksAs (c : Word32 → Instr) (t : FieldType) : Prop := ∀ off s, exec (c off) s = .next (peekScalar t off s)

/-- Where the field lies in the buffer, a peek depends on its offset operand by the position it names alone. -/
theorem PeeksAs.same {c : Word32 → Instr} {t : FieldType} (hc : PeeksAs c t) {s : State} {off off' : Word32} {k : Nat}
    (hv : s.pr.valid = true) (h : offsetIs off s.pr.buf.length k) (h' : offsetIs off' s.pr.buf.length k)
    (hfit : k + fieldWidth t ≤ s.pr.buf.length) : exec (c off) s = exec (c off') s := by
  rw [hc, hc, peekScalar_ok t hv h hfit, peekScalar_ok t hv h' hfit]

/-- Where it does not, the peek faults with the number that its offset operand holds. -/
theorem PeeksAs.faults {c : Word32 → Instr} {t : FieldType} (hc : PeeksAs c t) {s : State} {v : Int} {k : Nat}
    (hv : s.pr.valid = true) (hval : (BitVec.ofInt 32 v).toInt = v) (h : offsetIs (BitVec.ofInt 32 v) s.pr.buf.length k)
    (hlt : s.pr.buf.length < k + fieldWidth t) :
    onlyResult (c (BitVec.ofInt 32 v)) s (.fault (.boundsError v (fieldWidth t))) := by
  have hbad := peeks_of_bad t (hc _ s) hv (offsetBad_of_offsetIs h hlt)
  rwa [hval] at hbad

/-- Settles O21: both operands name position `k`, each holding its own number. -/
theorem negativeOffsetNamesTheSameField : Obligations.NegativeOffsetNamesTheSameField := by
  intro s k hv hk hlen
  have front := offsetIs_front hk hlen
  have back := offsetIs_back hk hlen
  have same {c : Word32 → Instr} {t : FieldType} (hc : PeeksAs c t) := hc.same hv front back
  have faultsFront {c : Word32 → Instr} {t : FieldType} (hc : PeeksAs c t) :=
    hc.faults hv (toInt_ofInt_offset (by omega) (by omega)) front
  have faultsBack {c : Word32 → Instr} {t : FieldType} (hc : PeeksAs c t) :=
    hc.faults hv (toInt_ofInt_offset (by omega) (by omega)) back
  refine ⟨fun h => ?_, fun h => ?_, fun h => ?_, fun h => ?_, fun h => ?_, fun h => ?_, fun h => ?_⟩
  · exact ⟨same exec_prPeekU8 h, same exec_prPeekS8 h, same exec_prPeekChar h⟩
  · exact ⟨same exec_prPeekU16LE h, same exec_prPeekS16LE h, same exec_prPeekU16BE h, same exec_prPeekS16BE h⟩
  · exact ⟨faultsFront exec_prPeekU16LE h, faultsBack exec_prPeekU16LE h, faultsFront exec_prPeekS16LE h,
      faultsBack exec_prPeekS16LE h, faultsFront exec_prPeekU16BE h, faultsBack exec_prPeekU16BE h,
      faultsFront exec_prPeekS16BE h, faultsBack exec_prPeekS16BE h⟩
  · exact ⟨same exec_prPeekU32LE h, same exec_prPeekS32LE h, same exec_prPeekU32BE h, same exec_prPeekS32BE h,
      same exec_prPeekF32 h⟩
  · exact ⟨faultsFront exec_prPeekU32LE h, faultsBack exec_prPeekU32LE h, faultsFront exec_prPeekS32LE h,
      faultsBack exec_prPeekS32LE h, faultsFront exec_prPeekU32BE h, faultsBack exec_prPeekU32BE h,
      faultsFront exec_prPeekS32BE h, faultsBack exec_prPeekS32BE h, faultsFront exec_prPeekF32 h, faultsBack exec_prPeekF32 h⟩
  · exact same exec_prPeekF64 h
  · exact ⟨faultsFront exec_prPeekF64 h, faultsBack exec_prPeekF64 h⟩

end Sys2Proof.Machine
end

section
/-! PROOFS of the statements about memory (20_memory.md), second part: the packed writer at an offset operand (R52, R53), the faults
of its two cursors, and the round trip through the reader (R58, R182). -/

namespace Sys2Proof.Machine

open Sys2Proof.Claim

/-! ## Stores at an offset operand (42_packed_writer.md R150) -/

/-- A store whose bytes fit. -/
theorem pokeRaw_ok {s : State} {off : Word32} {k : Nat} {xs : List Byte} (hoff : offsetIs off s.pw.buf.length k)
    (hfit : k + xs.length ≤ s.pw.buf.length) :
    pokeRaw off xs s = (s.withPw { s.pw with buf := memWrite s.pw.buf k xs }).withResult (some .ok) := by
  have hr := inRange_of_offsetIs hoff hfit
  rcases pokeRaw_cases off xs s with ⟨-, e⟩ | ⟨h, -⟩
  · rw [e, (offsetIs_iff off _ k).1 hoff, Int.toNat_natCast]
  · rw [hr] at h; cases h

/-- A store whose bytes do not fit. -/
theorem pokeRaw_bad {s : State} {off : Word32} {xs : List Byte} (hbad : offsetBad off s.pw.buf.length xs.length) :
    pokeRaw off xs s = s.withResult (some (.fault (.boundsError off.toInt xs.length))) := by
  have hr := (offsetBad_iff off _ _).1 hbad
  rcases pokeRaw_cases off xs s with ⟨h, -⟩ | ⟨-, e⟩
  · rw [hr] at h; cases h
  · exact e

theorem writeRaw_ok {s : State} {xs : List Byte} (hfit : s.pw.cur + xs.length ≤ s.pw.buf.length) :
    writeRaw xs s = (s.withPw { s.pw with buf := memWrite s.pw.buf s.pw.cur xs, cur := s.pw.cur + xs.length }).withResult
      (some .ok) := by
  rcases writeRaw_cases xs s with ⟨-, e⟩ | ⟨h, -⟩
  · exact e
  · omega

theorem writeRaw_bad {s : State} {xs : List Byte} (hlt : s.pw.buf.length < s.pw.cur + xs.length) :
    writeRaw xs s = s.withResult (some (.fault (.boundsError s.pw.cur xs.length))) := by
  rcases writeRaw_cases xs s with ⟨h, -⟩ | ⟨-, e⟩
  · omega
  · exact e

/-- A scalar poke whose bytes fit. -/
theorem pokeScalar_ok {s : State} {off : Word32} {k : Nat} (t : FieldType) (val : Nat) (hv : s.pw.valid = true)
    (hoff : offsetIs off s.pw.buf.length k) (hfit : k + fieldWidth t ≤ s.pw.buf.length) :
    pokeScalar t off val s = (s.withPw { s.pw with buf := memWrite s.pw.buf k (fieldBytes t val) }).withResult (some .ok) := by
  rw [pokeScalar, hv, needObject_true, pokeRaw_ok hoff (by rwa [fieldBytes_length])]

/-- A command that is a scalar poke, where its bytes fit at the offset operand. -/
theorem pokes_of_fits {i : Instr} {s : State} {off : Word32} {k : Nat} (t : FieldType) {val : Nat} {xs : List Byte}
    (hi : exec i s = .next (pokeScalar t off val s)) (hv : s.pw.valid = true) (hoff : offsetIs off s.pw.buf.length k)
    (hxs : fieldBytes t val = xs) (hfit : k + fieldWidth t ≤ s.pw.buf.length) :
    pokes i s (setBytes s.pw.buf k xs) := by
  rw [pokes, hi, pokeScalar_ok t val hv hoff hfit, hxs, setBytes_eq_memWrite _ _ _ (by rwa [← hxs, fieldBytes_length])]

/-- Settles O23, by the four widths: each type's bytes are the bytes of its pattern in its order. -/
theorem pokeScalarFieldsStoreTheirBytes : Obligations.PokeScalarFieldsStoreTheirBytes := by
  intro s off k v8 v16 v32 v64 hv hoff
  refine ⟨fun h => ?_, fun h => ?_, fun h => ?_, fun h => ?_⟩
  · have hle := leBytes_byteOf 1 v8
    exact ⟨pokes_of_fits .u8 rfl hv hoff hle h, pokes_of_fits .s8 rfl hv hoff hle h, pokes_of_fits .char rfl hv hoff hle h⟩
  · have hle := leBytes_byteOf 2 v16
    have hbe := beBytes_byteOf 2 v16
    exact ⟨pokes_of_fits .u16le rfl hv hoff hle h, pokes_of_fits .s16le rfl hv hoff hle h,
      pokes_of_fits .u16be rfl hv hoff hbe h, pokes_of_fits .s16be rfl hv hoff hbe h⟩
  · have hle := leBytes_byteOf 4 v32
    have hbe := beBytes_byteOf 4 v32
    exact ⟨pokes_of_fits .u32le rfl hv hoff hle h, pokes_of_fits .s32le rfl hv hoff hle h,
      pokes_of_fits .u32be rfl hv hoff hbe h, pokes_of_fits .s32be rfl hv hoff hbe h, pokes_of_fits .f32 rfl hv hoff hle h⟩
  · exact pokes_of_fits .f64 rfl hv hoff (leBytes_byteOf 8 v64) h

/-! ## Byte sequences (R166, R180) -/

/-- A write, byte by byte. -/
theorem memWrite_getElem? (buf : List Byte) (k : Nat) (xs : List Byte) (h : k + xs.length ≤ buf.length) (a : Nat) :
    (memWrite buf k xs)[a]? = if k ≤ a ∧ a < k + xs.length then xs[a - k]? else buf[a]? := by
  split
  · next hin =>
    have hthere := memWrite_there buf k xs h (a - k) (by omega)
    rwa [Nat.add_sub_cancel' hin.1] at hthere
  · exact memWrite_elsewhere buf k xs h a (by omega)

/-- The two commands with a legal length are their stores; with any other they are refused. -/
theorem writerBytes_ok {s : State} {data : List Byte} (hv : s.pw.valid = true) (hl : data.length < 2 ^ 31) (off : Word32) :
    exec (.pwPokeBytes off data) s = .next (pokeRaw off data s) ∧ exec (.pwWriteBytes data) s = .next (writeRaw data s) := by
  rw [exec_pwPokeBytes, exec_pwWriteBytes, pokeBytes, writeBytes, hv, needObject_true, needObject_true, needLength_ok hl,
    needLength_ok hl]
  exact ⟨rfl, rfl⟩

theorem writerBytes_refused {s : State} {data : List Byte} (hv : s.pw.valid = true) (hl : 2 ^ 31 ≤ data.length) (off : Word32) :
    onlyResult (.pwPokeBytes off data) s (.refused .operandRange) ∧ onlyResult (.pwWriteBytes data) s (.refused .operandRange) := by
  rw [onlyResult, onlyResult, exec_pwPokeBytes, exec_pwWriteBytes, pokeBytes, writeBytes, hv, needObject_true, needObject_true,
    needLength_bad hl, needLength_bad hl]
  exact ⟨rfl, rfl⟩

/-- Settles O25: the buffer afterwards is one write of the data. -/
theorem pokeAndWriteBytesStoreASubArray : Obligations.PokeAndWriteBytesStoreASubArray := by
  refine ⟨fun s off k data hv hl => ?_, fun s off data hv hl => writerBytes_refused hv hl off⟩
  obtain ⟨hpoke, hwrite⟩ := writerBytes_ok hv hl off
  refine ⟨fun hoff hfit => ?_, fun hfit => ?_, fun hbad => ?_, fun hlt => ?_⟩
  · exact ⟨memWrite s.pw.buf k data, by rw [pokes, hpoke, pokeRaw_ok hoff hfit], memWrite_length _ _ _ hfit,
      memWrite_getElem? _ _ _ hfit⟩
  · exact ⟨memWrite s.pw.buf s.pw.cur data, by rw [writes, hwrite, writeRaw_ok hfit], memWrite_length _ _ _ hfit,
      memWrite_getElem? _ _ _ hfit⟩
  · rw [onlyResult, hpoke, pokeRaw_bad hbad]
  · rw [onlyResult, hwrite, writeRaw_bad hlt]

/-! ## Scalar commands out of range (R53, R150, R151) -/

/-- A command that is a scalar poke, where its bytes do not fit at the offset operand. -/
theorem pokes_of_bad {i : Instr} {s : State} {off : Word32} (t : FieldType) {val : Nat}
    (hi : exec i s = .next (pokeScalar t off val s)) (hv : s.pw.valid = true)
    (hbad : offsetBad off s.pw.buf.length (fieldWidth t)) :
    onlyResult i s (.fault (.boundsError off.toInt (fieldWidth t))) := by
  rw [← fieldBytes_length t val] at hbad ⊢
  rw [onlyResult, hi, pokeScalar, hv, needObject_true, pokeRaw_bad hbad]

/-- A command that is a scalar write, where its bytes do not fit at the cursor. -/
theorem writes_of_bad {i : Instr} {s : State} (t : FieldType) {val : Nat} (hi : exec i s = .next (writeScalar t val s))
    (hv : s.pw.valid = true) (hlt : s.pw.buf.length < s.pw.cur + fieldWidth t) :
    onlyResult i s (.fault (.boundsError s.pw.cur (fieldWidth t))) := by
  rw [← fieldBytes_length t val] at hlt ⊢
  rw [onlyResult, hi, writeScalar, hv, needObject_true, writeRaw_bad hlt]

/-- Settles O26, by the four widths at the offset operand and at the cursor. -/
theorem writerOutOfRangeFaults : Obligations.WriterOutOfRangeFaults := by
  refine ⟨fun s off v8 v16 v32 v64 hv => ⟨fun h => ?_, fun h => ?_, fun h => ?_, fun h => ?_⟩,
    fun s v8 v16 v32 v64 hv => ⟨fun h => ?_, fun h => ?_, fun h => ?_, fun h => ?_⟩⟩
  · exact ⟨pokes_of_bad .u8 rfl hv h, pokes_of_bad .s8 rfl hv h, pokes_of_bad .char rfl hv h⟩
  · exact ⟨pokes_of_bad .u16le rfl hv h, pokes_of_bad .s16le rfl hv h, pokes_of_bad .u16be rfl hv h,
      pokes_of_bad .s16be rfl hv h⟩
  · exact ⟨pokes_of_bad .u32le rfl hv h, pokes_of_bad .s32le rfl hv h, pokes_of_bad .u32be rfl hv h,
      pokes_of_bad .s32be rfl hv h, pokes_of_bad .f32 rfl hv h⟩
  · exact pokes_of_bad .f64 rfl hv h
  · exact ⟨writes_of_bad .u8 rfl hv h, writes_of_bad .s8 rfl hv h, writes_of_bad .char rfl hv h⟩
  · exact ⟨writes_of_bad .u16le rfl hv h, writes_of_bad .s16le rfl hv h, writes_of_bad .u16be rfl hv h,
      writes_of_bad .s16be rfl hv h⟩
  · exact ⟨writes_of_bad .u32le rfl hv h, writes_of_bad .s32le rfl hv h, writes_of_bad .u32be rfl hv h,
      writes_of_bad .s32be rfl hv h, writes_of_bad .f32 rfl hv h⟩
  · exact writes_of_bad .f64 rfl hv h

/-! ## Poke, bind, peek (R182) -/

/-- `PR.NEW` binds the reader to the bytes it is given. -/
theorem exec_prNew_reader {data : List Byte} (hl : data.length < 2 ^ 31) (s : State) :
    ∃ u, exec (.prNew data) s = .next u ∧ u.pr = ⟨true, data, 0⟩ :=
  ⟨_, (readerNewBindsACopy s data).1 hl, rfl⟩

/-- What is peeked is the value, as the type peeked, of the bytes of the type poked. -/
theorem roundTrips_of_conv {poke peek : Instr} {s : State} {off : Word32} {k val : Nat} (t t' : FieldType) {v : Value}
    (hpoke : exec poke s = .next (pokeScalar t off val s)) (hpeek : ∀ u, exec peek u = .next (peekScalar t' off u))
    (hv : s.pw.valid = true) (hlen : s.pw.buf.length < 2 ^ 31) (hoff : offsetIs off s.pw.buf.length k)
    (hfit : k + fieldWidth t ≤ s.pw.buf.length) (hw : fieldWidth t' = fieldWidth t) (hconv : fieldConv t' (fieldBytes t val) = v) :
    roundTrips poke peek s v := by
  have hxs : (fieldBytes t val).length = fieldWidth t' := (fieldBytes_length t val).trans hw.symm
  have hfit' : k + (fieldBytes t val).length ≤ s.pw.buf.length := by rwa [fieldBytes_length]
  have hl := memWrite_length s.pw.buf k (fieldBytes t val) hfit'
  have hread := memRead_memWrite s.pw.buf k (fieldBytes t val) hfit'
  have hstore := hpoke.trans (congrArg _ (pokeScalar_ok t val hv hoff hfit))
  obtain ⟨u, hbind, hpr⟩ := exec_prNew_reader (hl.trans_lt hlen)
    ((s.withPw { s.pw with buf := memWrite s.pw.buf k (fieldBytes t val) }).withResult (some .ok))
  have hvalue : onlyResult peek u (.value v) :=
    peeks_of_memRead t' (hpeek u) (by rw [hpr]) (by rwa [hpr, hl]) (by rwa [hpr, ← hxs]) hxs hconv
  exact ⟨_, u, _, hstore, hbind, hvalue, rfl⟩

/-- An integer result by the pattern it is the number of, unsigned and as two's complement. -/
theorem int_unsigned {n m : Nat} {x : BitVec n} (h : m = x.toNat) : Value.int m = .int x.toNat := by rw [h]

theorem int_signed {n m : Nat} {x : BitVec n} (h : m = x.toNat) : Value.int (sext n m) = .int x.toInt := by rw [h, sext_toNat]

/-- A pattern laid out big-endian reads back as itself. -/
theorem ofBe_beBytes_toNat (bits w : Nat) (h : 256 ^ w = 2 ^ bits) (v : BitVec bits) : ofBe (beBytes w v.toNat) = v.toNat := by
  rw [ofBe_beBytes, h, Nat.mod_eq_of_lt v.isLt]

/-- Bytes laid out in one order and read in the other make the pattern with its bytes reversed. -/
theorem ofBe_leBytes_eq (w v : Nat) : ofBe (leBytes w v) = ofLe (beBytes w v) := rfl

theorem ofLe_beBytes_two (v : BitVec 16) : ofLe (beBytes 2 v.toNat) = (byteOf v 0 ++ byteOf v 1).toNat :=
  (congrArg ofLe (beBytes_byteOf 2 v)).trans (ofLe_two _ _).symm

theorem ofLe_beBytes_four (v : BitVec 32) :
    ofLe (beBytes 4 v.toNat) = (byteOf v 0 ++ byteOf v 1 ++ byteOf v 2 ++ byteOf v 3).toNat :=
  (congrArg ofLe (beBytes_byteOf 4 v)).trans (ofLe_four _ _ _ _).symm

/-- Settles O27, by the widths: the bytes stored make the same pattern in their own order, the reversed one in the other. -/
theorem writerAndReaderAreInverse : Obligations.WriterAndReaderAreInverse := by
  intro s off k v8 v16 v32 v64 hv hlen hoff
  have trip (t t' : FieldType) {poke peek : Instr} {val : Nat} {v : Value}
      (hpoke : exec poke s = .next (pokeScalar t off val s)) (hpeek : ∀ u, exec peek u = .next (peekScalar t' off u)) :=
    roundTrips_of_conv (v := v) t t' hpoke hpeek hv hlen hoff
  refine ⟨fun h => ?_, fun h => ?_, fun h => ?_, fun h => ?_⟩
  · have le := ofLe_leBytes_toNat 8 1 rfl v8
    exact ⟨trip .u8 .u8 rfl (fun _ => rfl) h rfl (int_unsigned le), trip .s8 .s8 rfl (fun _ => rfl) h rfl (int_signed le),
      trip .char .char rfl (fun _ => rfl) h rfl (by rw [fieldConv, fieldBytes, le, BitVec.ofNat_toNat, BitVec.setWidth_eq])⟩
  · have le := ofLe_leBytes_toNat 16 2 rfl v16
    have be := ofBe_beBytes_toNat 16 2 rfl v16
    have swapped := ofLe_beBytes_two v16
    have swapped' := (ofBe_leBytes_eq 2 v16.toNat).trans swapped
    exact ⟨trip .u16le .u16le rfl (fun _ => rfl) h rfl (int_unsigned le),
      trip .s16le .s16le rfl (fun _ => rfl) h rfl (int_signed le),
      trip .u16be .u16be rfl (fun _ => rfl) h rfl (int_unsigned be),
      trip .s16be .s16be rfl (fun _ => rfl) h rfl (int_signed be),
      trip .u16le .u16be rfl (fun _ => rfl) h rfl (int_unsigned swapped'),
      trip .u16be .u16le rfl (fun _ => rfl) h rfl (int_unsigned swapped),
      trip .s16le .s16be rfl (fun _ => rfl) h rfl (int_signed swapped'),
      trip .s16be .s16le rfl (fun _ => rfl) h rfl (int_signed swapped)⟩
  · have le := ofLe_leBytes_toNat 32 4 rfl v32
    have be := ofBe_beBytes_toNat 32 4 rfl v32
    have swapped := ofLe_beBytes_four v32
    have swapped' := (ofBe_leBytes_eq 4 v32.toNat).trans swapped
    exact ⟨trip .u32le .u32le rfl (fun _ => rfl) h rfl (int_unsigned le),
      trip .s32le .s32le rfl (fun _ => rfl) h rfl (int_signed le),
      trip .u32be .u32be rfl (fun _ => rfl) h rfl (int_unsigned be),
      trip .s32be .s32be rfl (fun _ => rfl) h rfl (int_signed be),
      trip .f32 .f32 rfl (fun _ => rfl) h rfl (by rw [fieldConv, fieldBytes, le, BitVec.ofNat_toNat, BitVec.setWidth_eq]),
      trip .u32le .u32be rfl (fun _ => rfl) h rfl (int_unsigned swapped'),
      trip .u32be .u32le rfl (fun _ => rfl) h rfl (int_unsigned swapped),
      trip .s32le .s32be rfl (fun _ => rfl) h rfl (int_signed swapped'),
      trip .s32be .s32le rfl (fun _ => rfl) h rfl (int_signed swapped)⟩
  · exact trip .f64 .f64 rfl (fun _ => rfl) h rfl
      (by rw [fieldConv, fieldBytes, ofLe_leBytes_toNat 64 8 rfl v64, BitVec.ofNat_toNat, BitVec.setWidth_eq])

end Sys2Proof.Machine
end

section
/-! PROOFS of the statements about memory (20_memory.md), third part: what a fault of the packed and frame units leaves unchanged (R53,
60_exceptions.md R285, R291). -/

namespace Sys2Proof.Machine

/-! ## Faults of the packed and frame units, and what ends in none -/

/-- The two faults that no bus call is behind: BoundsError and FrameTooLong (60_exceptions.md R280). -/
def CmdFault.isLocal : CmdFault → Bool
  | .boundsError _ _ | .frameTooLong _ => true
  | .bus _ | .transportUnreachable _ | .transportDriver _ | .transportGeneric _ => false

theorem CmdFault.isLocal_of {f : CmdFault} (h : (∃ off n, f = .boundsError off n) ∨ (∃ n, f = .frameTooLong n)) :
    f.isLocal = true := by
  obtain ⟨_, _, rfl⟩ | ⟨_, rfl⟩ := h <;> rfl

/-- A fault of the bus engine stays one of the bus when the transport adapter translates it (R253). -/
@[simp] theorem translateFault_isLocal (f : BusFault) : (translateFault f).isLocal = false := by cases f <;> rfl

/-- The result is no local fault. -/
def State.NoLocalFault (t : State) : Prop := ∀ f, t.result = some (.fault f) → f.isLocal = false

/-- Where `t` ends in a local fault, it is `s` with that result. -/
def FaultsUnchanged (s t : State) : Prop :=
  ∀ f, t.result = some (.fault f) → f.isLocal = true → t = s.withResult (some (.fault f))

theorem State.NoLocalFault.faultsUnchanged {s t : State} (h : t.NoLocalFault) : FaultsUnchanged s t :=
  fun f hres hlocal => absurd hlocal (Bool.eq_false_iff.1 (h f hres))

/-- A command that changes nothing but the result faults unchanged, whatever its result. -/
theorem faultsUnchanged_withResult (s : State) (v : Option Result) : FaultsUnchanged s (s.withResult v) :=
  fun _ hres _ => congrArg s.withResult hres

theorem noLocalFault_ok (t : State) : t.ok.NoLocalFault := nofun
theorem noLocalFault_okValue (t : State) (v : Value) : (t.okValue v).NoLocalFault := nofun
theorem noLocalFault_absent (t : State) : t.absent.NoLocalFault := nofun
theorem noLocalFault_hang (t : State) : t.hang.NoLocalFault := nofun

theorem noLocalFault_raise (t : State) {f : CmdFault} (h : f.isLocal = false) : (t.raise f).NoLocalFault := by
  rintro f' ⟨⟩
  exact h

/-! ## The checks before a command runs -/

theorem faultsUnchanged_needObject {valid : Bool} {s : State} {k : State → State} (h : FaultsUnchanged s (k s)) :
    FaultsUnchanged s (needObject valid s k) := by
  rcases needObject_cases valid s k with ⟨-, e⟩ | ⟨-, e⟩ <;> rw [e]
  · exact h
  · exact faultsUnchanged_withResult s _

theorem faultsUnchanged_needLength {n : Nat} {s : State} {k : State → State} (h : FaultsUnchanged s (k s)) :
    FaultsUnchanged s (needLength n s k) := by
  rcases needLength_cases n s k with ⟨-, e⟩ | ⟨-, e⟩ <;> rw [e]
  · exact h
  · exact faultsUnchanged_withResult s _

theorem faultsUnchanged_needAddress {a : Byte} {s : State} {k : State → State} (h : FaultsUnchanged s (k s)) :
    FaultsUnchanged s (needAddress a s k) := by
  rcases needAddress_cases a s k with ⟨-, e⟩ | ⟨-, e⟩ <;> rw [e]
  · exact h
  · exact faultsUnchanged_withResult s _

theorem faultsUnchanged_needDefault {d : Option Addr} {s : State} {k : Addr → State → State}
    (h : ∀ a, FaultsUnchanged s (k a s)) : FaultsUnchanged s (needDefault d s k) := by
  rcases needDefault_cases d s k with ⟨a, -, e⟩ | ⟨-, e⟩ <;> rw [e]
  · exact h a
  · exact faultsUnchanged_withResult s _

theorem faultsUnchanged_needConfigured {s : State} {k : State → State} (h : FaultsUnchanged s (k s)) :
    FaultsUnchanged s (needConfigured s k) := by
  rcases needConfigured_cases s k with ⟨-, e⟩ | ⟨-, e⟩ <;> rw [e]
  · exact h
  · exact faultsUnchanged_withResult s _

/-! ## The packed reader and writer: a local fault is raised from the state as it was -/

theorem faultsUnchanged_peekScalar (t : FieldType) (off : Word32) (s : State) : FaultsUnchanged s (peekScalar t off s) := by
  rcases peekScalar_cases t off s with ⟨-, e⟩ | ⟨-, -, e⟩ | ⟨-, -, e⟩ <;> rw [e] <;> exact faultsUnchanged_withResult s _

theorem faultsUnchanged_peekBytes (off n : Word32) (s : State) : FaultsUnchanged s (peekBytes off n s) := by
  rcases peekBytes_cases off n s with ⟨-, e⟩ | ⟨-, -, e⟩ | ⟨-, -, -, e⟩ | ⟨-, -, -, e⟩ <;> rw [e] <;>
    exact faultsUnchanged_withResult s _

theorem faultsUnchanged_readScalar (t : FieldType) (s : State) : FaultsUnchanged s (readScalar t s) := by
  rcases readScalar_cases t s with ⟨-, e⟩ | ⟨-, -, e⟩ | ⟨-, -, e⟩ <;> rw [e]
  · exact faultsUnchanged_withResult s _
  · exact (noLocalFault_okValue _ _).faultsUnchanged
  · exact faultsUnchanged_withResult s _

theorem faultsUnchanged_readBytes (n : Word32) (s : State) : FaultsUnchanged s (readBytes n s) := by
  rcases readBytes_cases n s with ⟨-, e⟩ | ⟨-, -, e⟩ | ⟨-, -, -, e⟩ | ⟨-, -, -, e⟩ <;> rw [e]
  · exact faultsUnchanged_withResult s _
  · exact faultsUnchanged_withResult s _
  · exact (noLocalFault_okValue _ _).faultsUnchanged
  · exact faultsUnchanged_withResult s _

theorem faultsUnchanged_pokeRaw (off : Word32) (xs : List Byte) (s : State) : FaultsUnchanged s (pokeRaw off xs s) := by
  rcases pokeRaw_cases off xs s with ⟨-, e⟩ | ⟨-, e⟩ <;> rw [e]
  · exact (noLocalFault_ok _).faultsUnchanged
  · exact faultsUnchanged_withResult s _

theorem faultsUnchanged_writeRaw (xs : List Byte) (s : State) : FaultsUnchanged s (writeRaw xs s) := by
  rcases writeRaw_cases xs s with ⟨-, e⟩ | ⟨-, e⟩ <;> rw [e]
  · exact (noLocalFault_ok _).faultsUnchanged
  · exact faultsUnchanged_withResult s _

theorem faultsUnchanged_pokeScalar (t : FieldType) (off : Word32) (val : Nat) (s : State) :
    FaultsUnchanged s (pokeScalar t off val s) :=
  faultsUnchanged_needObject (faultsUnchanged_pokeRaw off _ s)

theorem faultsUnchanged_writeScalar (t : FieldType) (val : Nat) (s : State) : FaultsUnchanged s (writeScalar t val s) :=
  faultsUnchanged_needObject (faultsUnchanged_writeRaw _ s)

/-! ## The frame slot -/

theorem faultsUnchanged_frmNewOp (cls id : Byte) (data : List Byte) (s : State) : FaultsUnchanged s (frmNewOp cls id data s) := by
  refine faultsUnchanged_needLength ?_
  split
  · exact faultsUnchanged_withResult s _
  · exact (noLocalFault_ok _).faultsUnchanged

theorem noLocalFault_loadFrame (cfg : Config) (raw : List Byte) (s : State) : (loadFrame cfg raw s).NoLocalFault := by
  rcases loadFrame_cases cfg raw s with ⟨-, e⟩ | ⟨p, -, e⟩ <;> rw [e]
  · exact noLocalFault_absent _
  · exact noLocalFault_okValue _ _

/-! ## The bus and the transport adapter: every fault is one of the bus -/

theorem noLocalFault_portCommand (call : Prim) (drv : Bus → CallOut × Bus) (s : State) :
    (portCommand call drv s).NoLocalFault := by
  rcases portCommand_cases call drv s with ⟨a, x, b, -, e⟩ | ⟨b, -, e⟩ | ⟨b, -, e⟩ <;> rw [e]
  · exact noLocalFault_ok _
  · exact noLocalFault_raise _ rfl
  · exact noLocalFault_hang _

theorem noLocalFault_submitRun (s : State) : (submitRun s).NoLocalFault := by
  obtain ⟨o, segs, b, -, e⟩ := submitRun_cases s
  rw [e]
  cases o with
  | ok => exact noLocalFault_ok _
  | fault f => exact noLocalFault_raise _ rfl
  | blocked => exact noLocalFault_hang _

theorem faultsUnchanged_submitChecked (s : State) :
    FaultsUnchanged s (if s.txn.consumed then s.refuse .txnConsumed else submitRun s) := by
  split
  · exact faultsUnchanged_withResult s _
  · exact (noLocalFault_submitRun s).faultsUnchanged

/-- A transaction of the transport adapter adds no local fault to what follows it. -/
theorem noLocalFault_transact (segs : List Segment) (s : State) {k : List Segment → State → State}
    (hk : ∀ segs t, (k segs t).NoLocalFault) : (transact segs s k).NoLocalFault := by
  rcases transact_cases segs s k with ⟨segs', b, -, e⟩ | ⟨f, segs', b, -, e⟩ | ⟨segs', b, -, e⟩ <;> rw [e]
  · exact hk segs' (s.withBus b)
  · exact noLocalFault_raise _ (translateFault_isLocal f)
  · exact noLocalFault_hang _

theorem noLocalFault_sendOp (s : State) : (sendOp s).NoLocalFault :=
  noLocalFault_transact _ _ fun _ t => noLocalFault_ok t

theorem noLocalFault_pollRead (count : Nat) (s : State) : (pollRead count s).NoLocalFault := by
  refine noLocalFault_transact _ _ fun segs t => ?_
  split
  · exact noLocalFault_absent _
  · exact noLocalFault_loadFrame _ _ t

theorem noLocalFault_pollOp (s : State) : (pollOp s).NoLocalFault := by
  refine noLocalFault_transact _ _ fun segs t => ?_
  split
  · exact noLocalFault_absent _
  · exact noLocalFault_pollRead _ t

/-! ## Every command -/

/-- Every command answers a next state, and one that ends in a local fault has changed nothing. The split follows the shared
operations. -/
theorem exec_faultsUnchanged (i : Instr) (s : State) : ∃ t, exec i s = .next t ∧ FaultsUnchanged s t := by
  have ok (t : State) : FaultsUnchanged s t.ok := (noLocalFault_ok t).faultsUnchanged
  have okValue (t : State) (v : Value) : FaultsUnchanged s (t.okValue v) := (noLocalFault_okValue t v).faultsUnchanged
  cases i with
  | cksNew | cksUpdate8 | cksUpdate16 | txnNew => exact ⟨_, rfl, ok _⟩
  | cksGet => exact ⟨_, rfl, okValue _ _⟩
  | prPeekU8 | prPeekS8 | prPeekU16LE | prPeekS16LE | prPeekU16BE | prPeekS16BE | prPeekU32LE | prPeekS32LE
  | prPeekU32BE | prPeekS32BE | prPeekF32 | prPeekF64 | prPeekChar => exact ⟨_, rfl, faultsUnchanged_peekScalar _ _ s⟩
  | prPeekBytes => exact ⟨_, rfl, faultsUnchanged_peekBytes _ _ s⟩
  | prReadU8 | prReadS8 | prReadU16LE | prReadS16LE | prReadU16BE | prReadS16BE | prReadU32LE | prReadS32LE
  | prReadU32BE | prReadS32BE | prReadF32 | prReadF64 | prReadChar => exact ⟨_, rfl, faultsUnchanged_readScalar _ s⟩
  | prReadBytes => exact ⟨_, rfl, faultsUnchanged_readBytes _ s⟩
  | prNew | pwNew => exact ⟨_, rfl, faultsUnchanged_needLength (ok _)⟩
  | pwPokeU8 | pwPokeS8 | pwPokeU16LE | pwPokeS16LE | pwPokeU16BE | pwPokeS16BE | pwPokeU32LE | pwPokeS32LE
  | pwPokeU32BE | pwPokeS32BE | pwPokeF32 | pwPokeF64 | pwPokeChar => exact ⟨_, rfl, faultsUnchanged_pokeScalar _ _ _ s⟩
  | pwPokeBytes => exact ⟨_, rfl, faultsUnchanged_needObject (faultsUnchanged_needLength (faultsUnchanged_pokeRaw _ _ s))⟩
  | pwWriteU8 | pwWriteS8 | pwWriteU16LE | pwWriteS16LE | pwWriteU16BE | pwWriteS16BE | pwWriteU32LE | pwWriteS32LE
  | pwWriteU32BE | pwWriteS32BE | pwWriteF32 | pwWriteF64 | pwWriteChar => exact ⟨_, rfl, faultsUnchanged_writeScalar _ _ s⟩
  | pwWriteBytes => exact ⟨_, rfl, faultsUnchanged_needObject (faultsUnchanged_needLength (faultsUnchanged_writeRaw _ s))⟩
  | frmNew => exact ⟨_, rfl, faultsUnchanged_frmNewOp _ _ _ s⟩
  | frmSerialize | frmChecksum => exact ⟨_, rfl, faultsUnchanged_needObject (okValue _ _)⟩
  | frmDeserialize => exact ⟨_, rfl, faultsUnchanged_needLength (noLocalFault_loadFrame _ _ s).faultsUnchanged⟩
  | txnWith => exact ⟨_, rfl, faultsUnchanged_needObject (faultsUnchanged_needAddress (ok _))⟩
  | txnWrite | txnRead =>
    exact ⟨_, rfl, faultsUnchanged_needObject (faultsUnchanged_needAddress (faultsUnchanged_needLength (ok _)))⟩
  | txnWrited | txnReadd =>
    exact ⟨_, rfl, faultsUnchanged_needObject (faultsUnchanged_needDefault fun _ => faultsUnchanged_needLength (ok _))⟩
  | txnBuild => exact ⟨_, rfl, faultsUnchanged_needObject (ok _)⟩
  | busOpen | busClose => exact ⟨_, rfl, (noLocalFault_portCommand _ _ s).faultsUnchanged⟩
  | busSubmit => exact ⟨_, rfl, faultsUnchanged_needObject (faultsUnchanged_submitChecked s)⟩
  | tpConfig => exact ⟨_, rfl, faultsUnchanged_needAddress (ok _)⟩
  | tpSend =>
    exact ⟨_, rfl, faultsUnchanged_needConfigured (faultsUnchanged_needObject (noLocalFault_sendOp s).faultsUnchanged)⟩
  | tpPoll => exact ⟨_, rfl, faultsUnchanged_needConfigured (noLocalFault_pollOp s).faultsUnchanged⟩

/-- Settles O58: the packed and frame units raise their faults from the state the command began in, and no other unit raises them. -/
theorem faultsOfThePackedAndFrameUnitsChangeNothing : Obligations.FaultsOfThePackedAndFrameUnitsChangeNothing := by
  intro i s t f hexec hres hf
  obtain ⟨t', hexec', hfaults⟩ := exec_faultsUnchanged i s
  obtain rfl : t' = t := Host.Outcome.next.inj (hexec'.symm.trans hexec)
  exact hfaults f hres (CmdFault.isLocal_of hf)

end Sys2Proof.Machine
end

section
/-! PROOFS of the statements about the encoding (30_encoding.md), first part: the decoder and the encoder are inverse (R70 to R75), and
what the decoder rejects (R76, R77). -/

namespace Sys2Proof

open Sys2Proof.Machine

/-! ## The formats of R72: a parser of operands and the bytes it reads -/

/-- The parser `p` reads the command `f a` from the bytes `put a`, where `ok a`, with any bytes after them, and reads nothing else. -/
structure Format {α : Type} (p : List Byte → Parse) (f : α → Instr) (put : α → List Byte) (ok : α → Bool) : Prop where
  reads : ∀ a rest, ok a = true → p (put a ++ rest) = some (f a, rest)
  only : ∀ {bs i rest}, p bs = some (i, rest) → ∃ a, i = f a ∧ bs = put a ++ rest ∧ ok a = true

/-- Format Z. -/
theorem format_argZ (i : Instr) : Format (argZ i) (fun _ : Unit => i) (fun _ => []) fun _ => true where
  reads _ _ _ := rfl
  only h := by
    obtain ⟨rfl, rfl⟩ := Prod.mk.inj (Option.some.inj h)
    exact ⟨(), rfl, rfl, rfl⟩

/-- Formats I8, I16, O, N, V, A. -/
theorem format_argV {bits : Nat} (hb : 256 ^ (bits / 8) = 2 ^ bits) (f : BitVec bits → Instr) :
    Format (argV bits f) f (putBits bits) fun _ => true where
  reads v rest _ := by simp [argV, takeBits_putBits bits hb]
  only h := by
    obtain ⟨⟨v, r⟩, hv, he⟩ := Option.map_eq_some_iff.1 h
    obtain ⟨rfl, rfl⟩ := Prod.mk.inj he
    exact ⟨v, rfl, takeBits_some hb hv, rfl⟩

/-- Format B. -/
theorem format_argB (f : List Byte → Instr) : Format (argB f) f putData dataFits where
  reads data rest h := by simp [argB, takeData_putData data rest h]
  only h := by
    obtain ⟨⟨data, r⟩, hd, he⟩ := Option.map_eq_some_iff.1 h
    obtain ⟨rfl, rfl⟩ := Prod.mk.inj he
    obtain ⟨hbs, hfits⟩ := takeData_some hd
    exact ⟨data, rfl, hbs, hfits⟩

/-- An operand of `bits` bits in front of a format. -/
theorem Format.behind {α : Type} {bits : Nat} (hb : 256 ^ (bits / 8) = 2 ^ bits) {p : BitVec bits → List Byte → Parse}
    {f : BitVec bits → α → Instr} {put : α → List Byte} {ok : α → Bool} (h : ∀ v, Format (p v) (f v) put ok) :
    Format (fun bs => (takeBits bits bs).bind fun q => p q.1 q.2) (fun a : BitVec bits × α => f a.1 a.2)
      (fun a => putBits bits a.1 ++ put a.2) fun a => ok a.2 where
  reads a rest ha := by simp [takeBits_putBits bits hb, (h a.1).reads a.2 rest ha]
  only hp := by
    obtain ⟨⟨v, r⟩, hv, hr⟩ := Option.bind_eq_some_iff.1 hp
    obtain ⟨a, rfl, rfl, ha⟩ := (h v).only hr
    exact ⟨(v, a), rfl, by rw [takeBits_some hb hv, List.append_assoc], ha⟩

/-- Formats ON, OV, AN, C. -/
theorem format_argVV {bits bits' : Nat} (hb : 256 ^ (bits / 8) = 2 ^ bits) (hb' : 256 ^ (bits' / 8) = 2 ^ bits')
    (f : BitVec bits → BitVec bits' → Instr) :
    Format (argVV bits bits' f) (fun a : BitVec bits × BitVec bits' => f a.1 a.2)
      (fun a => putBits bits a.1 ++ putBits bits' a.2) fun _ => true :=
  .behind hb fun v => format_argV hb' (f v)

/-- Formats OB, AB. -/
theorem format_argVB {bits : Nat} (hb : 256 ^ (bits / 8) = 2 ^ bits) (f : BitVec bits → List Byte → Instr) :
    Format (argVB bits f) (fun a : BitVec bits × List Byte => f a.1 a.2) (fun a => putBits bits a.1 ++ putData a.2)
      fun a => dataFits a.2 :=
  .behind hb fun v => format_argB (f v)

/-- Format F. -/
theorem format_argF (f : Byte → Byte → List Byte → Instr) :
    Format (argF f) (fun a : Byte × Byte × List Byte => f a.1 a.2.1 a.2.2)
      (fun a => putBits 8 a.1 ++ (putBits 8 a.2.1 ++ putData a.2.2)) fun a => dataFits a.2.2 :=
  .behind rfl fun v => format_argVB rfl (f v)

/-! ## The rows of the opcode map (R75) -/

theorem ofParse_eq_command {p : Parse} {i : Instr} {rest : List Byte} : ofParse p = .command i rest ↔ p = some (i, rest) := by
  rcases p with _ | ⟨j, r⟩ <;> simp [ofParse]

/-- The row of the opcode byte `op`, to which the command `i` belongs: the decoder reads `i` back from its encoding, and what it reads
after `op` it reads from an encoding. -/
structure OpcodeRow (op : Byte) (i : Instr) : Prop where
  head : (encode i).head? = some op
  known : ∀ bs, decode (op :: bs) ≠ .unknownOpcode
  reads : ∀ rest, i.wf = true → decode (encode i ++ rest) = .command i rest
  only : ∀ {bs j rest}, decode (op :: bs) = .command j rest → op :: bs = encode j ++ rest ∧ j.wf = true

/-- An opcode byte whose operands have a format makes a row. -/
theorem Format.row {α : Type} {p : List Byte → Parse} {f : α → Instr} {put : α → List Byte} {ok : α → Bool}
    (hf : Format p f put ok) {op : Byte} (hencode : ∀ a, encode (f a) = op :: put a) (hdecode : ∀ bs, decode (op :: bs) = ofParse (p bs))
    (hwf : ∀ a, (f a).wf = ok a) (a : α) : OpcodeRow op (f a) where
  head := by rw [hencode, List.head?_cons]
  known bs := hdecode bs ▸ ofParse_known _
  reads rest ha := by
    rw [hencode, List.cons_append, hdecode, ofParse_eq_command]
    exact hf.reads a rest (hwf a ▸ ha)
  only h := by
    rw [hdecode, ofParse_eq_command] at h
    obtain ⟨b, rfl, rfl, hb⟩ := hf.only h
    exact ⟨by rw [hencode, List.cons_append], (hwf b).trans hb⟩

/-- Every command belongs to a row. The split follows the formats of R75. -/
theorem exists_opcodeRow (i : Instr) : ∃ op, OpcodeRow op i := by
  cases i with
  | cksNew | cksGet | prReadU8 | prReadS8 | prReadU16LE | prReadS16LE | prReadU16BE | prReadS16BE | prReadU32LE | prReadS32LE
  | prReadU32BE | prReadS32BE | prReadF32 | prReadF64 | prReadChar | frmSerialize | frmChecksum | txnNew | txnBuild | busOpen
  | busClose | busSubmit | tpSend | tpPoll =>
    exact ⟨_, (format_argZ _).row (fun _ => rfl) (fun _ => rfl) (fun _ => rfl) ()⟩
  | cksUpdate8 v | cksUpdate16 v | prPeekU8 v | prPeekS8 v | prPeekU16LE v | prPeekS16LE v | prPeekU16BE v | prPeekS16BE v
  | prPeekU32LE v | prPeekS32LE v | prPeekU32BE v | prPeekS32BE v | prPeekF32 v | prPeekF64 v | prPeekChar v | prReadBytes v
  | pwWriteU8 v | pwWriteS8 v | pwWriteU16LE v | pwWriteS16LE v | pwWriteU16BE v | pwWriteS16BE v | pwWriteU32LE v
  | pwWriteS32LE v | pwWriteU32BE v | pwWriteS32BE v | pwWriteF32 v | pwWriteF64 v | pwWriteChar v | pwNew v | txnWith v
  | txnReadd v =>
    exact ⟨_, (format_argV (by norm_num) _).row (fun _ => rfl) (fun _ => rfl) (fun _ => rfl) v⟩
  | prPeekBytes v w | pwPokeU8 v w | pwPokeS8 v w | pwPokeU16LE v w | pwPokeS16LE v w | pwPokeU16BE v w | pwPokeS16BE v w
  | pwPokeU32LE v w | pwPokeS32LE v w | pwPokeU32BE v w | pwPokeS32BE v w | pwPokeF32 v w | pwPokeF64 v w | pwPokeChar v w
  | txnRead v w | tpConfig v w =>
    exact ⟨_, (format_argVV (by norm_num) (by norm_num) _).row (fun _ => rfl) (fun _ => rfl) (fun _ => rfl) (v, w)⟩
  | prNew data | pwWriteBytes data | frmDeserialize data | txnWrited data =>
    exact ⟨_, (format_argB _).row (fun _ => rfl) (fun _ => rfl) (fun _ => rfl) data⟩
  | pwPokeBytes v data | txnWrite v data =>
    exact ⟨_, (format_argVB (by norm_num) _).row (fun _ => rfl) (fun _ => rfl) (fun _ => rfl) (v, data)⟩
  | frmNew cls id data =>
    exact ⟨_, (format_argF _).row (fun _ => congrArg _ (List.append_assoc ..)) (fun _ => rfl) (fun _ => rfl) (cls, id, data)⟩

/-- Settles O4: each command is read back in its row. -/
theorem decodeOfEncodeIsIdentity : Obligations.DecodeOfEncodeIsIdentity := by
  intro i rest hi
  obtain ⟨op, row⟩ := exists_opcodeRow i
  exact row.reads rest hi

/-! ## Which opcode bytes have a row -/

/-- An opcode byte is unknown whatever follows it, or starts a format: the last of the map's 80 arms is the one for every other
byte. -/
theorem decodeOpcode_cases (n : Nat) :
    (∀ bs, decodeOpcode n bs = .unknownOpcode) ∨ ∃ p : List Byte → Parse, ∀ bs, decodeOpcode n bs = ofParse (p bs) := by
  unfold decodeOpcode
  split
  case h_80 => exact .inl fun _ => rfl
  all_goals exact .inr ⟨_, fun _ => rfl⟩

/-- Whether an opcode byte is unknown does not depend on the bytes after it. -/
theorem decode_unknown_iff (op : Byte) (bs bs' : List Byte) :
    decode (op :: bs) = .unknownOpcode ↔ decode (op :: bs') = .unknownOpcode := by
  simp only [decode]
  rcases decodeOpcode_cases op.toNat with h | ⟨p, h⟩
  · rw [h, h]
  · rw [h, h]
    exact iff_of_false (ofParse_known _) (ofParse_known _)

/-- From an opcode byte and zeros the decoder reads a command of that opcode, where it reads anything. -/
def startsOwnRow (op : Byte) : Bool :=
  match decode (op :: zeroBytes longestFixed) with
  | .command i _ => (encode i).head? == some op
  | .unknownOpcode => true
  | .truncated => false

theorem startsOwnRow_all : ∀ op : Byte, startsOwnRow op = true := by decide

/-- An opcode byte that is not unknown has a row. -/
theorem exists_opcodeRow_of_known {op : Byte} {bs : List Byte} (h : decode (op :: bs) ≠ .unknownOpcode) : ∃ i, OpcodeRow op i := by
  have hop := startsOwnRow_all op
  unfold startsOwnRow at hop
  split at hop
  case h_1 i rest hzeros =>
    obtain ⟨op', row⟩ := exists_opcodeRow i
    obtain rfl : op' = op := Option.some.inj (row.head.symm.trans (eq_of_beq hop))
    exact ⟨i, row⟩
  case h_2 hzeros => exact absurd ((decode_unknown_iff op _ _).1 hzeros) h
  case h_3 => cases hop

/-- Settles O5: the command is read in the row of the first byte. -/
theorem encodeOfDecodeIsIdentity : Obligations.EncodeOfDecodeIsIdentity := by
  intro bs i rest h
  cases bs with
  | nil => cases h
  | cons op bs =>
    obtain ⟨j, row⟩ := exists_opcodeRow_of_known (h ▸ command_known i rest : decode (op :: bs) ≠ .unknownOpcode)
    exact row.only h

end Sys2Proof
end

section
/-! PROOFS of the statements about the encoding (30_encoding.md), second part: the opcode map byte by byte (R72 to R75), the steps that
run a command or refuse its bytes (R76, R77), the pseudo-instructions (R86) and the layout of a frame (R79). -/

namespace Sys2Proof

open Sys2Proof.Machine Sys2Proof.Claim

/-! ## Operands byte by byte (R73) -/

/-- An operand is read from the bytes of its number. -/
theorem takeBits_of_ofLe {bits : Nat} {v : BitVec bits} {xs : List Byte} (hl : xs.length = bits / 8) (hv : v.toNat = ofLe xs)
    (rest : List Byte) : takeBits bits (xs ++ rest) = some (v, rest) := by
  simp [takeBits, takeLe_append _ xs rest hl, ← hv]

@[simp] theorem takeBits_byte (x : Byte) (rest : List Byte) : takeBits 8 (x :: rest) = some (x, rest) :=
  takeBits_of_ofLe (xs := [x]) rfl (by simp [ofLe]) rest

@[simp] theorem takeBits_two_bytes (x0 x1 : Byte) (rest : List Byte) : takeBits 16 (x0 :: x1 :: rest) = some (x1 ++ x0, rest) :=
  takeBits_of_ofLe (xs := [x0, x1]) rfl (ofLe_two x0 x1) rest

@[simp] theorem takeBits_four_bytes (x0 x1 x2 x3 : Byte) (rest : List Byte) :
    takeBits 32 (x0 :: x1 :: x2 :: x3 :: rest) = some (x3 ++ x2 ++ x1 ++ x0, rest) :=
  takeBits_of_ofLe (xs := [x0, x1, x2, x3]) rfl (ofLe_four x0 x1 x2 x3) rest

@[simp] theorem takeBits_eight_bytes (x0 x1 x2 x3 x4 x5 x6 x7 : Byte) (rest : List Byte) :
    takeBits 64 (x0 :: x1 :: x2 :: x3 :: x4 :: x5 :: x6 :: x7 :: rest) =
      some (x7 ++ x6 ++ x5 ++ x4 ++ x3 ++ x2 ++ x1 ++ x0, rest) :=
  takeBits_of_ofLe (xs := [x0, x1, x2, x3, x4, x5, x6, x7]) rfl (ofLe_eight x0 x1 x2 x3 x4 x5 x6 x7) rest

/-- The data bytes are read where the four bytes before them hold their number. -/
theorem takeData_four_bytes {n0 n1 n2 n3 : Byte} {data : List Byte} (h : data.length = ofLe [n0, n1, n2, n3]) (rest : List Byte) :
    takeData (n0 :: n1 :: n2 :: n3 :: (data ++ rest)) = some (data, rest) := by
  have hn : takeLe 4 (n0 :: n1 :: n2 :: n3 :: (data ++ rest)) = some (data.length, data ++ rest) :=
    h ▸ takeLe_append 4 [n0, n1, n2, n3] (data ++ rest) rfl
  simp [takeData, hn]

/-- Settles O1: the opcode byte selects the format, and the format reads its operands byte by byte. -/
theorem opcodeMapDecodesEveryRow : Obligations.OpcodeMapDecodesEveryRow := by
  constructor
  · intros
    simp [argZ, argV, argVV, ofParse]
  · intro addr cls id o0 o1 o2 o3 n0 n1 n2 n3 data rest h
    have hdata := takeData_four_bytes (n0 := n0) (n1 := n1) (n2 := n2) (n3 := n3) (h.trans (by simp only [ofLe]; omega)) rest
    simp [argB, argVB, argF, ofParse, hdata]

/-- Settles O6. -/
theorem specCommandWordsDecode : Obligations.SpecCommandWordsDecode :=
  ⟨rfl, rfl, rfl, rfl, rfl, rfl, rfl, rfl⟩

/-! ## What the decoder rejects (R76, R77) -/

theorem decode_op_unknown_iff : ∀ op : Byte, decode [op] = .unknownOpcode ↔ illegalOpcode op.toNat = true := by decide

/-- The bytes of a command cut short are those of no command. -/
theorem decode_take_encode {i : Instr} {k : Nat} (hi : i.wf = true) (hk : k < (encode i).length) :
    decode ((encode i).take k) = .truncated := by
  have hsplit : (encode i).take k ++ (encode i).drop k = encode i := List.take_append_drop k (encode i)
  cases hd : decode ((encode i).take k) with
  | truncated => rfl
  | command j rest =>
    obtain ⟨hj, hjwf⟩ := encodeOfDecodeIsIdentity _ j rest hd
    have hread : decode (encode j ++ (rest ++ (encode i).drop k)) = .command i [] := by
      rw [← List.append_assoc, ← hj, hsplit, ← List.append_nil (encode i)]
      exact decodeOfEncodeIsIdentity i [] hi
    rw [decodeOfEncodeIsIdentity j _ hjwf] at hread
    have hnil : rest ++ (encode i).drop k = [] := (DecodeResult.command.inj hread).2
    have hlen := List.drop_eq_nil_iff.1 (List.append_eq_nil_iff.1 hnil).2
    omega
  | unknownOpcode =>
    obtain ⟨op, row⟩ := exists_opcodeRow i
    cases hbs : (encode i).take k with
    | nil => rw [hbs] at hd; cases hd
    | cons op' bs =>
      have hop : (encode i).head? = some op' := by rw [← hsplit, hbs]; rfl
      obtain rfl : op = op' := Option.some.inj (row.head.symm.trans hop)
      exact absurd (hbs ▸ hd) (row.known bs)

end Sys2Proof

namespace Sys2Proof.Machine

open Sys2Proof.Claim

/-! ## The step at a hand-over (R70, R76, R77) -/

theorem step_of_command {s : State} {bs : List Byte} {more : List (List Byte)} {i : Instr} {rest : List Byte}
    (hb : s.bus.blocked = none) (hc : s.cmdIn = bs :: more) (hd : decode bs = .command i rest) :
    step s = exec i (s.withCmdIn (leftOver rest more)) := by
  simp [step, fetch, hb, hc, hd]

theorem step_of_unknownOpcode {s : State} {bs : List Byte} {more : List (List Byte)} (hb : s.bus.blocked = none)
    (hc : s.cmdIn = bs :: more) (hd : decode bs = .unknownOpcode) :
    step s = .next ((s.withCmdIn more).withResult (some (.refused .unknownOpcode))) := by
  simp [step, fetch, hb, hc, hd]

theorem step_of_truncated {s : State} {bs : List Byte} {more : List (List Byte)} (hb : s.bus.blocked = none)
    (hc : s.cmdIn = bs :: more) (hd : decode bs = .truncated) :
    step s = .next ((s.withCmdIn more).withResult (some (.refused .truncatedCommand))) := by
  simp [step, fetch, hb, hc, hd]

/-- Settles O7. -/
theorem stepRunsTheDecodedCommand : Obligations.StepRunsTheDecodedCommand :=
  fun _ _ _ _ _ => step_of_command

/-- Settles O2: the decoder's verdict depends on the opcode byte alone, and the step drops the hand-over. -/
theorem illegalOpcodesRefused : Obligations.IllegalOpcodesRefused := by
  have hdecode (op : Byte) (bs : List Byte) : decode (op :: bs) = .unknownOpcode ↔ illegalOpcode op.toNat = true :=
    (decode_unknown_iff op bs []).trans (decode_op_unknown_iff op)
  exact ⟨hdecode, rfl, fun s op bs more hb hc hop => ⟨more, step_of_unknownOpcode hb hc ((hdecode op bs).2 hop)⟩⟩

/-- Settles O3: the bytes cut short read as no command, since with the rest of the bytes they read as the whole one. -/
theorem truncatedCommandsRefused : Obligations.TruncatedCommandsRefused :=
  ⟨fun _ _ => decode_take_encode, fun _ _ more hb hc hd => ⟨more, step_of_truncated hb hc hd⟩⟩

/-! ## Pseudo-instructions (R86) -/

/-- A command whose result says so skips the others. -/
theorem runUntil_skip {skip : Option Result → Bool} {i : Instr} {is : List Instr} {s t : State} (h : exec i s = .next t)
    (hskip : skip t.result = true) : runUntil skip (i :: is) s = .next t := by
  simp [runUntil, h, hskip]

theorem runUntil_go {skip : Option Result → Bool} {i : Instr} {is : List Instr} {s t : State} (h : exec i s = .next t)
    (hskip : skip t.result = false) : runUntil skip (i :: is) s = runUntil skip is t := by
  simp [runUntil, h, hskip]

/-- After the last command there is nothing to skip. -/
theorem runUntil_last {skip : Option Result → Bool} {i : Instr} {s t : State} (h : exec i s = .next t) :
    runUntil skip [i] s = .next t := by
  simp [runUntil, h]

/-- Settles O60: the first command is refused, faults or ends with `Ok`, which decides whether the second one runs. -/
theorem pseudoInstructionsExpand : Obligations.PseudoInstructionsExpand := by
  refine ⟨fun s hv => ?_, fun s t u hv hbuild hsubmit => ?_, fun s c i p hl hl' => ?_, fun s t u c i p hl hnew hsend => ?_⟩
  · have hbuild : exec .txnBuild s = .next (s.withResult (some (.refused .noObject))) := by
      rw [exec_txnBuild, hv, needObject_false, State.refuse_eq]
    exact runUntil_skip hbuild rfl
  · have hok : t.result = some .ok := by
      rw [exec_txnBuild, hv, needObject_true] at hbuild
      exact Host.Outcome.next.inj hbuild ▸ rfl
    exact (runUntil_go hbuild (by rw [hok]; rfl)).trans (runUntil_last hsubmit)
  · exact runUntil_skip ((exec_frmNew c i p s).trans (congrArg _ (frmNewOp_long hl hl' c i s))) rfl
  · have hok : t.result = some .ok := by
      rw [exec_frmNew, frmNewOp_short hl] at hnew
      exact Host.Outcome.next.inj hnew ▸ rfl
    exact (runUntil_go hnew (by rw [hok]; rfl)).trans (runUntil_last hsend)

/-! ## The checksum of a sequence (40_checksum.md R106) -/

/-- Feeding bytes adds their plain sum to `a`. -/
theorem foldl_cksFeed_a (xs : List Byte) (c : Cks) : (xs.foldl cksFeed c).a.toNat = (c.a.toNat + plainSum xs) % 256 := by
  induction xs generalizing c with
  | nil => simpa [plainSum] using (Nat.mod_eq_of_lt c.a.isLt).symm
  | cons x xs ih => simp [ih, cksFeed, plainSum, Nat.add_assoc]

/-- Feeding bytes adds `a` once for each of them, and their weighted sum, to `b`. -/
theorem foldl_cksFeed_b (xs : List Byte) (c : Cks) :
    (xs.foldl cksFeed c).b.toNat = (c.b.toNat + xs.length * c.a.toNat + weightedSum xs) % 256 := by
  induction xs generalizing c with
  | nil => simpa [weightedSum] using (Nat.mod_eq_of_lt c.b.isLt).symm
  | cons x xs ih =>
    have ha : (cksFeed c x).a.toNat ≡ c.a.toNat + x.toNat [MOD 256] := Nat.mod_modEq _ _
    have hb : (cksFeed c x).b.toNat ≡ c.b.toNat + (c.a.toNat + x.toNat) [MOD 256] := (Nat.mod_modEq _ _).trans (ha.add_left _)
    calc ((x :: xs).foldl cksFeed c).b.toNat
      _ = ((cksFeed c x).b.toNat + xs.length * (cksFeed c x).a.toNat + weightedSum xs) % 256 := ih (cksFeed c x)
      _ = (c.b.toNat + (c.a.toNat + x.toNat) + xs.length * (c.a.toNat + x.toNat) + weightedSum xs) % 256 :=
        (hb.add (ha.mul_left _)).add_right _
      _ = (c.b.toNat + (x :: xs).length * c.a.toNat + weightedSum (x :: xs)) % 256 := by
        rw [weightedSum, List.length_cons]; ring_nf

/-- `CKS.UPDATEN` of at least one byte ends with `Ok`, the accumulator fed with each byte. -/
theorem runUntil_cksUpdate8 (x : Byte) (xs : List Byte) (s : State) :
    runUntil (fun _ => false) ((x :: xs).map .cksUpdate8) s =
      .next ((s.withCks ((x :: xs).foldl cksFeed s.cks)).withResult (some .ok)) := by
  induction xs generalizing x s with
  | nil => exact runUntil_last (exec_cksUpdate8 x s)
  | cons y ys ih => exact (runUntil_cons (exec_cksUpdate8 x s)).trans (ih y _)

/-- Settles O12: the accumulator after `CKS.NEW` is (0, 0), so that the sums of the bytes are all there is. -/
theorem checksumClosedForm : Obligations.ChecksumClosedForm := by
  intro s t xs ha hb hnew
  obtain rfl := Host.Outcome.next.inj ((exec_cksNew s).symm.trans hnew)
  have hfresh : cksFresh s.cfg = ⟨0, 0⟩ := by rw [cksFresh, ha, hb]
  have hsums : (xs.foldl cksFeed (cksFresh s.cfg)).a.toNat = plainSum xs % 256 ∧
      (xs.foldl cksFeed (cksFresh s.cfg)).b.toNat = weightedSum xs % 256 := by
    rw [hfresh, foldl_cksFeed_a, foldl_cksFeed_b]
    simp
  obtain ⟨hsa, hsb⟩ := hsums
  cases xs with
  | nil => exact ⟨_, rfl, hsa, hsb, fun _ => rfl, fun h => absurd rfl h⟩
  | cons x xs => exact ⟨_, runUntil_cksUpdate8 x xs _, hsa, hsb, nofun, fun _ => rfl⟩

/-! ## The bytes of a frame (R79) -/

/-- The six bytes of a frame's header. -/
def frameHeader (c i : Byte) (n : Nat) : List Byte := [0xB5, 0x62, c, i, BitVec.ofNat 8 (n % 256), BitVec.ofNat 8 (n / 256)]

/-- The two bytes of a frame's checksum, the high byte first. -/
def frameTrailer (ck : BitVec 16) : List Byte := [BitVec.ofNat 8 (ck.toNat / 256), BitVec.ofNat 8 (ck.toNat % 256)]

/-- A serialized frame is its header, the payload and the checksum of its body. -/
theorem serFrame_parts (d : Build) (c i : Byte) (p : List Byte) :
    serFrame d.config c i p = frameHeader c i p.length ++ (p ++ frameTrailer (cksOver d.config (frameBody c i p))) := by
  have hlow (n : Nat) : BitVec.ofNat 8 (n % 256) = BitVec.ofNat 8 n := BitVec.eq_of_toNat_eq (by simp)
  simp [serFrame_eq, frameBody, frameHeader, frameTrailer, beBytes, leBytes, hlow]

theorem serFrame_header (d : Build) (c i : Byte) (p : List Byte) {k : Nat} (hk : k < 6) :
    (serFrame d.config c i p)[k]? = (frameHeader c i p.length)[k]? := by
  rw [serFrame_parts]
  exact List.getElem?_append_left hk

theorem serFrame_payload (d : Build) (c i : Byte) (p : List Byte) {k : Nat} (hk : k < p.length) :
    (serFrame d.config c i p)[6 + k]? = p[k]? := by
  rw [serFrame_parts, List.getElem?_append_right (Nat.le_add_right 6 k), show 6 + k - (frameHeader c i p.length).length = k from
    Nat.add_sub_cancel_left 6 k, List.getElem?_append_left hk]

theorem serFrame_trailer (d : Build) (c i : Byte) (p : List Byte) (k : Nat) :
    (serFrame d.config c i p)[k + (6 + p.length)]? = (frameTrailer (cksOver d.config (frameBody c i p)))[k]? := by
  have hl : (frameHeader c i p.length ++ p).length = 6 + p.length := List.length_append
  rw [serFrame_parts, ← List.append_assoc, List.getElem?_append_right (hl ▸ Nat.le_add_left _ k), hl, Nat.add_sub_cancel]

/-- The checksummed bytes are those between the sync bytes and the checksum. -/
theorem serFrame_body (d : Build) (c i : Byte) (p : List Byte) :
    ((serFrame d.config c i p).drop 2).take (p.length + 4) = frameBody c i p := by
  have hl : (frameBody c i p).length = p.length + 4 := by simp [frameBody]; omega
  rw [serFrame_eq, List.append_assoc]
  exact List.take_left' hl

/-- Settles O28: six bytes of header, then the payload, then the two bytes of the checksum. -/
theorem serializedFrameLayout : Obligations.SerializedFrameLayout := by
  intro d c i p _
  have hl : (serFrame d.config c i p).length = p.length + 8 := by simp [serFrame_parts, frameHeader, frameTrailer]
  have header {k : Nat} (hk : k < 6) := serFrame_header d c i p hk
  have trailer := serFrame_trailer d c i p
  simp only [serFrame_body]
  refine ⟨hl, header (k := 0) (by decide), header (k := 1) (by decide), header (k := 2) (by decide), header (k := 3) (by decide),
    header (k := 4) (by decide), header (k := 5) (by decide), fun _ => serFrame_payload d c i p, ?_, ?_⟩
  · rw [← Nat.zero_add (6 + p.length)]
    exact trailer 0
  · rw [show 7 + p.length = 1 + (6 + p.length) by omega]
    exact trailer 1

end Sys2Proof.Machine
end

section
/-! PROOFS of the statements about the checksum (40_checksum.md): what one more byte does to the accumulator (R102, R103), and that a
frame with one byte changed does not parse (R106, R196). -/

namespace Sys2Proof.Machine

open Sys2Proof.Claim

/-! ## One more byte (R102, R103) -/

theorem cksFeed_a_toNat (c : Cks) (x : Byte) : (cksFeed c x).a.toNat = (c.a.toNat + x.toNat) % 256 :=
  BitVec.toNat_add c.a x

theorem cksFeed_b_toNat (c : Cks) (x : Byte) : (cksFeed c x).b.toNat = (c.b.toNat + (cksFeed c x).a.toNat) % 256 :=
  BitVec.toNat_add c.b (cksFeed c x).a

/-- Settles O10: the accumulators are fed with the operand's bytes, of a 16-bit operand its quotient and remainder by 256. -/
theorem checksumUpdatesAreSequential : Obligations.ChecksumUpdatesAreSequential := by
  refine ⟨fun s x => ⟨cksFeed s.cks x, exec_cksUpdate8 x s, cksFeed_a_toNat .., cksFeed_b_toNat ..⟩, fun s v => ?_⟩
  have hhigh : (byteOf v 1).toNat = v.toNat / 256 := by
    rw [byteOf_eq, BitVec.toNat_ofNat]; omega
  have hlow : (byteOf v 0).toNat = v.toNat % 256 := by rw [byteOf_eq, BitVec.toNat_ofNat, Nat.pow_zero, Nat.div_one]
  refine ⟨cksFeed s.cks (byteOf v 1), cksFeed (cksFeed s.cks (byteOf v 1)) (byteOf v 0), exec_cksUpdate16 v s, ?_, ?_, ?_, ?_⟩
  · rw [cksFeed_a_toNat, hhigh]
  · exact cksFeed_b_toNat ..
  · rw [cksFeed_a_toNat _ (byteOf v 0), hlow]
  · exact cksFeed_b_toNat ..

/-! ## Sequences that differ in one byte have different checksums -/

/-- Two accumulators that the same byte makes equal were equal. -/
theorem cksFeed_injective (x : Byte) : Function.Injective (cksFeed · x) := by
  rintro ⟨a, b⟩ ⟨a', b'⟩ h
  simp only [cksFeed, Cks.mk.injEq] at h
  obtain ⟨ha, hb⟩ := h
  obtain rfl : a = a' := by simpa using ha
  obtain rfl : b = b' := by simpa using hb
  rfl

/-- An accumulator tells two bytes apart, by `a`. -/
theorem cksFeed_byte_injective (c : Cks) : Function.Injective (cksFeed c) := fun x y h => by
  simpa [cksFeed] using congrArg Cks.a h

/-- A difference of two accumulators survives every sequence of bytes. -/
theorem foldl_cksFeed_injective (xs : List Byte) : Function.Injective (xs.foldl cksFeed ·) := by
  induction xs with
  | nil => exact fun _ _ h => h
  | cons x xs ih => exact ih.comp (cksFeed_injective x)

theorem foldl_cksFeed_set_ne {xs : List Byte} {k : Nat} {x : Byte} (hk : k < xs.length) (hx : xs[k]? ≠ some x) (c : Cks) :
    (xs.set k x).foldl cksFeed c ≠ xs.foldl cksFeed c := by
  induction xs generalizing k c with
  | nil => cases hk
  | cons y ys ih =>
    cases k with
    | zero => exact fun h => hx (congrArg some (cksFeed_byte_injective c (foldl_cksFeed_injective ys h)).symm)
    | succ k => exact ih (Nat.lt_of_succ_lt_succ hk) hx (cksFeed c y)

/-- Either order of the result shows both accumulators (R104). -/
theorem cksGet_injective (cfg : Config) : Function.Injective (cksGet cfg) := by
  rintro ⟨a, b⟩ ⟨a', b'⟩ h
  have hn := congrArg BitVec.toNat h
  rw [Cks.mk.injEq, ← BitVec.toNat_inj, ← BitVec.toNat_inj]
  cases ho : cfg.cksOrder with
  | aHigh =>
    simp only [cksGet_toNat_of_aHigh ho] at hn
    omega
  | bHigh =>
    simp only [cksGet_toNat_of_bHigh ho] at hn
    omega

theorem cksOver_set_ne (cfg : Config) {xs : List Byte} {k : Nat} {x : Byte} (hk : k < xs.length) (hx : xs[k]? ≠ some x) :
    cksOver cfg (xs.set k x) ≠ cksOver cfg xs :=
  fun h => foldl_cksFeed_set_ne hk hx _ (cksGet_injective cfg h)

/-! ## Reads of a buffer with one byte changed -/

theorem memRead_set_inside {b : List Byte} {k addr : Nat} (n : Nat) (x : Byte) (h : addr ≤ k) :
    memRead (b.set k x) addr n = (memRead b addr n).set (k - addr) x := by
  rw [memRead, memRead, List.drop_set, if_neg (Nat.not_lt.2 h), List.take_set]

theorem memRead_set_before {b : List Byte} {k addr : Nat} (n : Nat) (x : Byte) (h : k < addr) :
    memRead (b.set k x) addr n = memRead b addr n := by
  rw [memRead, memRead, List.drop_set_of_lt h]

theorem memRead_set_after {b : List Byte} {k addr n : Nat} (x : Byte) (h : addr + n ≤ k) :
    memRead (b.set k x) addr n = memRead b addr n := by
  rw [memRead_set_inside n x (by omega), List.set_eq_of_length_le]
  rw [memRead, List.length_take]; omega

theorem getElem?_memRead {b : List Byte} {k addr n : Nat} (h : addr ≤ k) (h' : k < addr + n) :
    (memRead b addr n)[k - addr]? = b[k]? := by
  rw [memRead, List.getElem?_take_of_lt (by omega), List.getElem?_drop, Nat.add_sub_cancel' h]

/-- The read that covers the changed byte shows the change. -/
theorem memRead_set_ne {b : List Byte} {k addr n : Nat} {x : Byte} (hk : k < b.length) (hx : b[k]? ≠ some x)
    (h : addr ≤ k) (h' : k < addr + n) : memRead (b.set k x) addr n ≠ memRead b addr n := fun e => hx <| by
  rw [← getElem?_memRead h h', ← e, getElem?_memRead h h', List.getElem?_set_self hk]

/-! ## The two checksums of a frame with one byte changed (R196) -/

theorem storedCks_set_of_lt {b : List Byte} {k : Nat} (x : Byte) (h : k < b.length - 2) :
    storedCks (b.set k x) = storedCks b := by
  rw [storedCks, storedCks, List.length_set, memRead_set_before 2 x h]

theorem computedCks_set_of_ge (cfg : Config) {b : List Byte} {k : Nat} (x : Byte) (hl : 8 ≤ b.length) (h : b.length - 2 ≤ k) :
    computedCks cfg (b.set k x) = computedCks cfg b := by
  rw [computedCks, computedCks, List.length_set, memRead_set_after x (by omega)]

theorem computedCks_set_ne (cfg : Config) {b : List Byte} {k : Nat} {x : Byte} (hl : 8 ≤ b.length) (hx : b[k]? ≠ some x)
    (h : 2 ≤ k) (h' : k < b.length - 2) : computedCks cfg (b.set k x) ≠ computedCks cfg b := by
  rw [computedCks, computedCks, List.length_set, memRead_set_inside _ x h]
  refine cksOver_set_ne cfg ?_ ?_
  · rw [memRead_length _ _ _ (by omega)]; omega
  · rwa [getElem?_memRead h (by omega)]

theorem storedCks_set_ne {b : List Byte} {k : Nat} {x : Byte} (hl : 8 ≤ b.length) (hk : k < b.length) (hx : b[k]? ≠ some x)
    (h : b.length - 2 ≤ k) : storedCks (b.set k x) ≠ storedCks b := fun e => by
  have hlen : (b.set k x).length = b.length := List.length_set
  refine memRead_set_ne hk hx h (n := 2) (by omega) ?_
  rw [← beBytes_storedCks hl, ← e, beBytes_storedCks (hlen ▸ hl), hlen]

/-- Settles O30. The changed byte is one of the sync bytes, which are fixed; or one of the checksummed bytes, and the computed
checksum changes while the stored one does not; or one of the stored checksum, and the other way round. -/
theorem oneChangedByteIsAlwaysCaught : Obligations.OneChangedByteIsAlwaysCaught := by
  intro bd b k x hparse hk hx
  obtain ⟨r, hr⟩ := Option.isSome_iff_exists.1 hparse
  obtain ⟨hl, h0, h1, -, hc, -⟩ := parseFrame_some hr
  refine Option.eq_none_iff_forall_ne_some.2 fun r' hr' => ?_
  obtain ⟨hl', h0', h1', -, hc', -⟩ := parseFrame_some hr'
  rcases Nat.lt_or_ge k 2 with hsync | hbody
  · have hsame : memRead (b.set k x) 0 2 = memRead b 0 2 := by
      rw [memRead_two (by omega), memRead_two (by omega), h0, h1, h0', h1']
    exact memRead_set_ne hk hx (Nat.zero_le k) (by omega) hsame
  rcases Nat.lt_or_ge k (b.length - 2) with hmid | htail
  · have hstored := storedCks_set_of_lt x hmid
    exact computedCks_set_ne bd.config hl hx hbody hmid (hc'.trans (hstored.trans hc.symm))
  · have hcomputed := computedCks_set_of_ge bd.config x hl htail
    exact storedCks_set_ne hl hk hx htail (hc'.symm.trans (hcomputed.trans hc))

end Sys2Proof.Machine
end

section
/-! PROOFS of the statements about the frame codec (43_frame_codec.md): parsing and serializing are inverse (R192, R196), and what
`FRM.DESERIALIZE` makes of a buffer (R195). -/

namespace Sys2Proof.Machine

/-! ## The fields of a serialized frame (30_encoding.md R79) -/

theorem serFrame_length (d : Build) (c i : Byte) (p : List Byte) : (serFrame d.config c i p).length = p.length + 8 := by
  simp [serFrame_parts, frameHeader, frameTrailer]

theorem byteAt_of_getElem? {b : List Byte} {k : Nat} {x : Byte} (h : b[k]? = some x) : byteAt b k = x := by
  rw [byteAt, List.getD_eq_getElem?_getD, h, Option.getD_some]

/-- The length field holds the length of a payload that is not too long for it. -/
theorem declaredLen_serFrame (d : Build) (c i : Byte) {p : List Byte} (hp : p.length ≤ 65535) :
    declaredLen (serFrame d.config c i p) = p.length := by
  have hread : memRead (serFrame d.config c i p) 4 2 = leBytes 2 p.length := rfl
  rw [declaredLen, hread, ofLe_leBytes, Nat.mod_eq_of_lt (by omega)]

theorem memRead_serFrame_payload (d : Build) (c i : Byte) (p : List Byte) : memRead (serFrame d.config c i p) 6 p.length = p := by
  rw [serFrame_parts]
  exact List.take_left

theorem computedCks_serFrame (d : Build) (c i : Byte) (p : List Byte) :
    computedCks d.config (serFrame d.config c i p) = cksOver d.config (frameBody c i p) := by
  rw [computedCks, serFrame_length, show p.length + 8 - 4 = p.length + 4 from rfl, memRead, serFrame_body]

/-! ## Parsing and serializing (R192, R196) -/

/-- A serialized frame passes the four checks of R196, and its fields are what was serialized. -/
theorem parseFrame_serFrame (d : Build) (c i : Byte) {p : List Byte} (hp : p.length ≤ 65535) :
    parseFrame d.config (serFrame d.config c i p) = some ⟨c, i, p, cksOver d.config (frameBody c i p)⟩ := by
  have hl := serFrame_length d c i p
  have hstored := storedCks_serFrame d.config c i p
  have header {k : Nat} {x : Byte} (hk : k < 6) (hx : (frameHeader c i p.length)[k]? = some x) :
      byteAt (serFrame d.config c i p) k = x :=
    byteAt_of_getElem? ((serFrame_header d c i p hk).trans hx)
  have hlen : declaredLen (serFrame d.config c i p) + 8 = (serFrame d.config c i p).length := by
    rw [declaredLen_serFrame d c i hp, hl]
  have hcks : computedCks d.config (serFrame d.config c i p) = storedCks (serFrame d.config c i p) :=
    (computedCks_serFrame d c i p).trans hstored.symm
  rw [parseFrame_of (hl ▸ Nat.le_add_left 8 _) (header (k := 0) (by decide) rfl) (header (k := 1) (by decide) rfl) hlen hcks,
    header (k := 2) (by decide) rfl, header (k := 3) (by decide) rfl, hl, Nat.add_sub_cancel, memRead_serFrame_payload, hstored]

/-- Settles O29: a serialized frame passes every check of `parse`, and the checks leave no byte of a buffer open. -/
theorem parseAndSerializeAreInverse : Obligations.ParseAndSerializeAreInverse :=
  ⟨fun d c i _ hp => parseFrame_serFrame d c i hp, fun _ _ _ h => serFrame_of_parseFrame h⟩

/-- A buffer that no frame serializes to does not parse. -/
theorem parseFrame_eq_none {d : Build} {b : List Byte}
    (h : ∀ (c i : Byte) (p : List Byte), p.length ≤ 65535 → b ≠ serFrame d.config c i p) : parseFrame d.config b = none := by
  refine Option.eq_none_iff_forall_ne_some.2 fun r hr => ?_
  obtain ⟨hp, -, hser⟩ := serFrame_of_parseFrame hr
  exact h r.cls r.id r.payload hp hser.symm

/-! ## Loading the frame slot (R195) -/

theorem loadFrame_of_some {cfg : Config} {b : List Byte} {r : Parsed} (h : parseFrame cfg b = some r) (s : State) :
    loadFrame cfg b s =
      (s.withFrm ⟨true, r.cls, r.id, r.payload, some b, some r.ck⟩).withResult (some (.value .frameSlot)) := by
  simp [loadFrame, h]

theorem loadFrame_of_none {cfg : Config} {b : List Byte} (h : parseFrame cfg b = none) (s : State) :
    loadFrame cfg b s = (s.withFrm { s.frm with valid := false }).withResult (some .absent) := by
  simp [loadFrame, h]

theorem exec_frmDeserialize_short {b : List Byte} (h : b.length < 2 ^ 31) (s : State) :
    exec (.frmDeserialize b) s = .next (loadFrame s.cfg b s) := by
  rw [exec_frmDeserialize, needLength_ok h]

/-- Settles O33: in range, the command loads what `parse` finds, and by O29 that is a frame exactly for the serialized ones. -/
theorem deserializeLoadsOrEmptiesTheSlot : Obligations.DeserializeLoadsOrEmptiesTheSlot := by
  refine ⟨fun s c i p hp => ?_, fun s b hb hne => ?_, fun s b hb => congrArg _ (needLength_bad hb s _)⟩
  · have hshort : (serFrame s.cfg c i p).length < 2 ^ 31 := by
      have hl : (serFrame s.cfg c i p).length = p.length + 8 := serFrame_length s.build c i p
      omega
    exact (exec_frmDeserialize_short hshort s).trans (congrArg _ (loadFrame_of_some (parseFrame_serFrame s.build c i hp) s))
  · have hnone : parseFrame s.build.config b = none := parseFrame_eq_none hne
    exact (exec_frmDeserialize_short hb s).trans (congrArg _ (loadFrame_of_none hnone s))

end Sys2Proof.Machine
end

section
/-! PROOFS of the statements about the transaction builder (44_transaction_builder.md): what each builder command does when its
checks pass (R211 to R218), addresses out of range (R220), and the transaction a submit consumes (R222). -/

namespace Sys2Proof.Machine

open Sys2Proof.Claim

/-! ## The builder commands on a valid builder (R211 to R218) -/

theorem appendSegment_eq (dir : Dir) (addr : Addr) (data : List Byte) (s : State) : appendSegment dir addr data s =
    (s.withTb { s.tb with segs := s.tb.segs ++ [⟨dir, addr, data⟩] }).withResult (some .ok) := rfl

section
variable {s : State} {addr : Byte} {a : Addr} {data : List Byte} {n : Word32}

theorem exec_txnWith_ok (hv : s.tb.valid = true) (ha : addr.toNat = a.toNat) :
    exec (.txnWith addr) s = .next ((s.withTb { s.tb with dflt := some a }).withResult (some .ok)) := by
  obtain ⟨hle, rfl⟩ := toAddr_eq ha
  rw [exec_txnWith, hv, needObject_true, needAddress_ok hle, State.ok_eq]

theorem exec_txnWrite_ok (hv : s.tb.valid = true) (ha : addr.toNat = a.toNat) (hl : data.length < 2 ^ 31) :
    exec (.txnWrite addr data) s = .next (appendSegment .write a data s) := by
  obtain ⟨hle, rfl⟩ := toAddr_eq ha
  rw [exec_txnWrite, hv, needObject_true, needAddress_ok hle, needLength_ok hl]

theorem exec_txnRead_ok (hv : s.tb.valid = true) (ha : addr.toNat = a.toNat) (hn : n.toNat < 2 ^ 31) :
    exec (.txnRead addr n) s = .next (appendSegment .read a (List.replicate n.toNat 0) s) := by
  obtain ⟨hle, rfl⟩ := toAddr_eq ha
  rw [exec_txnRead, hv, needObject_true, needAddress_ok hle, needLength_ok hn, zeroBytes]

theorem exec_txnWrited_ok (hv : s.tb.valid = true) (hd : s.tb.dflt = some a) (hl : data.length < 2 ^ 31) :
    exec (.txnWrited data) s = .next (appendSegment .write a data s) := by
  rw [exec_txnWrited, hv, needObject_true, hd, needDefault_some, needLength_ok hl]

theorem exec_txnReadd_ok (hv : s.tb.valid = true) (hd : s.tb.dflt = some a) (hn : n.toNat < 2 ^ 31) :
    exec (.txnReadd n) s = .next (appendSegment .read a (List.replicate n.toNat 0) s) := by
  rw [exec_txnReadd, hv, needObject_true, hd, needDefault_some, needLength_ok hn, zeroBytes]

theorem exec_txnBuild_ok (hv : s.tb.valid = true) : exec .txnBuild s =
    .next (((s.withTxn ⟨true, s.tb.segs, false⟩).withTb { s.tb with valid := false }).withResult (some .ok)) := by
  rw [exec_txnBuild, hv, needObject_true, State.ok_eq]

end

/-- Settles O34: with every check passed, the four appending commands are `appendSegment`, and the others are one update each. -/
theorem builderCommandsComplete : Obligations.BuilderCommandsComplete := by
  refine ⟨exec_txnNew, fun s addr a d data n hv ha hl hn => ?_⟩
  simp only [← appendSegment_eq]
  exact ⟨exec_txnWith_ok hv ha, exec_txnWrite_ok hv ha hl, exec_txnRead_ok hv ha hn,
    fun hd => ⟨exec_txnWrited_ok hv hd hl, exec_txnReadd_ok hv hd hn⟩, exec_txnBuild_ok hv⟩

/-! ## The range of an address operand (R220) -/

/-- The builder commands with an address operand refuse one above 127, whatever their other operands. -/
theorem builder_refuses_addressRange {s : State} {addr : Byte} (hv : s.tb.valid = true) (ha : 127 < addr.toNat) (data : List Byte)
    (n : Word32) :
    onlyResult (.txnWith addr) s (.refused .addressRange) ∧ onlyResult (.txnWrite addr data) s (.refused .addressRange) ∧
    onlyResult (.txnRead addr n) s (.refused .addressRange) := by
  simp only [onlyResult, exec_txnWith, exec_txnWrite, exec_txnRead, hv, needObject_true, needAddress_bad ha, State.refuse_eq,
    and_self]

/-- Settles O35: above 127 the check on the address refuses; an operand in range is the number of the address it names. -/
theorem addressAbove127IsRefused : Obligations.AddressAbove127IsRefused := by
  refine ⟨fun s addr data n ceiling ha => ⟨congrArg _ (needAddress_bad ha s _), fun hv => builder_refuses_addressRange hv ha data n⟩,
    fun s addr data n ceiling hle hv hl hn => ?_⟩
  have ha : addr.toNat = (toAddr addr).toNat := (toAddr_toNat addr hle).symm
  exact ⟨_, _, _, _, toAddr addr, transportConfigSetsBothRegisters s addr _ ceiling ha, exec_txnWith_ok hv ha,
    exec_txnWrite_ok hv ha hl, exec_txnRead_ok hv ha hn, ha.symm, rfl, rfl, rfl, rfl⟩

/-! ## A transaction is submitted once (R222, 45_bus_engine.md R228) -/

theorem exec_busSubmit_fresh {s : State} (hv : s.txn.valid = true) (hc : s.txn.consumed = false) :
    exec .busSubmit s = .next (submitRun s) := by
  simp only [exec_busSubmit, hv, hc, needObject_true, Bool.false_eq_true, if_false]

theorem exec_busSubmit_consumed {s : State} (hv : s.txn.valid = true) (hc : s.txn.consumed = true) :
    exec .busSubmit s = .next (s.withResult (some (.refused .txnConsumed))) := by
  simp only [exec_busSubmit, hv, hc, needObject_true, if_true, State.refuse_eq]

/-- Settles O45: the first submit is the engine run, which consumes the slot however it ends; the second fails its check. -/
theorem aSubmitConsumesItsTransaction : Obligations.ASubmitConsumesItsTransaction := by
  refine ⟨fun s o gs b hv hc hrun => ?_, fun _ => exec_busSubmit_consumed⟩
  obtain ⟨o', gs', b', hrun', hend⟩ := submitRun_cases s
  obtain ⟨rfl, rfl, rfl⟩ : o' = o ∧ gs' = gs ∧ b' = b := by simpa using hrun'.symm.trans hrun
  have hslot : { s.txn with segs := gs', consumed := true } = TxnSlot.mk true gs' true := congrArg (TxnSlot.mk · gs' true) hv
  rw [hslot] at hend
  exact (exec_busSubmit_fresh hv hc).trans (congrArg _ hend)

end Sys2Proof.Machine
end

section
/-! PROOFS of the statements about the bus engine (45_bus_engine.md), first part: steps with no command to run (R244), the port
commands (R226, R227), and submits whose calls are all answered: none (R229), every one acknowledged (R230 to R234, R245), and the
first address byte not acknowledged (R246). -/

namespace Sys2Proof.Machine

open Sys2Proof.Claim

/-! ## No hand-over, or a call that has not returned (R244, R326) -/

theorem step_of_idle {s : State} (hb : s.bus.blocked = none) (hc : s.cmdIn = []) : step s = .next s := by
  simp [step, fetch, hb, hc]

theorem step_of_stuck {s : State} {call : Prim} (hb : s.bus.blocked = some call) :
    step s = .fault (.primitiveNeverReturns call) := by
  simp [step, hb]

/-- Settles O8. -/
theorem idleAndBlockedSteps : Obligations.IdleAndBlockedSteps :=
  ⟨fun _ => step_of_idle, fun _ _ => step_of_stuck⟩

/-! ## The port commands (R226, R227) -/

theorem portCommand_of_returned {call : Prim} {drv : Bus → CallOut × Bus} {s : State} {ack : Bool} {x : Byte} {b : Bus}
    (h : drv s.bus = (.returned ack x, b)) : portCommand call drv s = (s.withBus b).withResult (some .ok) := by
  simp [portCommand, h]

theorem portCommand_of_failed {call : Prim} {drv : Bus → CallOut × Bus} {s : State} {b : Bus} (h : drv s.bus = (.failed, b)) :
    portCommand call drv s = (s.withBus b).withResult (some (.fault (.bus (.driverFault call)))) := by
  simp [portCommand, h]

theorem portCommand_of_never {call : Prim} {drv : Bus → CallOut × Bus} {s : State} {b : Bus} (h : drv s.bus = (.never, b)) :
    portCommand call drv s = (s.withBus b).withResult none := by
  simp [portCommand, h]

/-- Settles O37: each command is its one call, with the answer that the script holds for it. -/
theorem openAndCloseCallTheDriver : Obligations.OpenAndCloseCallTheDriver := by
  intro s rest ack x
  refine ⟨fun h => ⟨?_, ?_⟩, fun h => ⟨?_, ?_⟩, fun h => ⟨?_, ?_⟩⟩
  · exact congrArg _ (portCommand_of_returned (drvCall_returns _ _ _ _ _ _ h))
  · exact congrArg _ (portCommand_of_returned (drvCall_returns _ _ _ _ _ _ h))
  · exact congrArg _ (portCommand_of_failed (drvCall_fails _ _ _ _ h))
  · exact congrArg _ (portCommand_of_failed (drvCall_fails _ _ _ _ h))
  · exact congrArg _ (portCommand_of_never (drvCall_never _ _ _ _ h))
  · exact congrArg _ (portCommand_of_never (drvCall_never _ _ _ _ h))

/-! ## A submit whose engine run is known (R228, R229) -/

theorem exec_busSubmit_of_ok {s : State} {gs : List Segment} {b : Bus} (hv : s.txn.valid = true) (hc : s.txn.consumed = false)
    (h : engineSubmit s.txn.segs s.bus = (.ok, gs, b)) : exec .busSubmit s =
      .next (((s.withTxn { s.txn with segs := gs, consumed := true }).withBus b).withResult (some .ok)) := by
  rw [exec_busSubmit_fresh hv hc, submitRun, h]
  rfl

theorem exec_busSubmit_of_fault {s : State} {f : BusFault} {gs : List Segment} {b : Bus} (hv : s.txn.valid = true)
    (hc : s.txn.consumed = false) (h : engineSubmit s.txn.segs s.bus = (.fault f, gs, b)) : exec .busSubmit s =
      .next (((s.withTxn { s.txn with segs := gs, consumed := true }).withBus b).withResult (some (.fault (.bus f)))) := by
  rw [exec_busSubmit_fresh hv hc, submitRun, h]
  rfl

/-- Settles O38: the engine run of no segments leaves the bus side as it is. -/
theorem emptySubmitCallsNothing : Obligations.EmptySubmitCallsNothing := by
  intro s hv hc hnil
  rw [exec_busSubmit_of_ok hv hc (by rw [hnil, engineSubmit_nil])]
  simp only [← hnil]
  rfl

/-! ## Calls with answers given in advance -/

/-- From `b` to `b'` calls were made that left the letters `es`; the answers not yet used are `rest`, the free oracle gave none
and no call is newly outstanding. -/
structure Answered (b : Bus) (es : List BusEvent) (rest : List DrvAnswer) (b' : Bus) : Prop where
  trace : b'.trace = b.trace ++ es
  script : b'.script = rest
  err : b'.err = b.err
  draws : b'.draws = b.draws
  blocked : b'.blocked = b.blocked

theorem Answered.nothing (b : Bus) : Answered b [] b.script b := ⟨by simp, rfl, rfl, rfl, rfl⟩

/-- Moving the engine position makes no call. -/
theorem Answered.of_at {b b' : Bus} {es : List BusEvent} {rest : List DrvAnswer} {p : Phase} {k j : Nat}
    (h : Answered (b.at p k j) es rest b') : Answered b es rest b' :=
  ⟨h.trace, h.script, h.err, h.draws, h.blocked⟩

theorem Answered.trans {b b₁ b' : Bus} {es es' : List BusEvent} {rest rest' : List DrvAnswer} (h : Answered b es rest b₁)
    (h' : Answered b₁ es' rest' b') : Answered b (es ++ es') rest' b' :=
  ⟨by simp [h'.trace, h.trace], h'.script, h'.err.trans h.err, h'.draws.trans h.draws, h'.blocked.trans h.blocked⟩

theorem drvCall_answered (call : Prim) (letter : Bool → Byte → BusEvent) {b : Bus} {ack : Bool} {x : Byte} {rest : List DrvAnswer}
    (hs : b.script = .returns ack x :: rest) :
    ∃ b', drvCall call letter b = (.returned ack x, b') ∧ Answered b [letter ack x] rest b' :=
  ⟨_, drvCall_returns call letter b ack x rest hs, rfl, rfl, rfl, rfl, rfl⟩

/-- The condition before segment `k` is one primitive call. -/
theorem conditionCall_eq (k : Nat) : conditionCall k = drvCall (conditionPrim k) fun _ _ => if k = 0 then .s else .sr := by
  by_cases hk : k = 0 <;> simp [conditionCall, conditionPrim, hk, drvStart, drvRstart]

/-- A segment whose condition and address calls return: an acknowledged address byte is followed by the data, one that is not ends
the segment (R231). -/
theorem runSegment_answered (k : Nat) (g : Segment) {b : Bus} {a ack : Bool} {x y : Byte} {rest : List DrvAnswer}
    (hs : b.script = .returns a x :: .returns ack y :: rest) :
    ∃ b', runSegment k g b = (if ack then dataPhase k g b' else (.failed (.nackAddress g.addr), g, b')) ∧
      Answered b [if k = 0 then .s else .sr, .a g.addr (decide (g.dir = .read)) ack] rest b' := by
  obtain ⟨b₁, e₁, h₁⟩ := drvCall_answered (conditionPrim k) (fun _ _ => if k = 0 then .s else .sr) (b := b.at .start k b.byte) hs
  obtain ⟨b₂, e₂, h₂⟩ :=
    drvCall_answered .addr (fun ack _ => .a g.addr (decide (g.dir = .read)) ack) (b := b₁.at .addr k 0) h₁.script
  refine ⟨b₂, ?_, h₁.of_at.trans h₂.of_at⟩
  cases ack <;> simp [runSegment, conditionCall_eq, e₁, addrPhase, drvAddr, e₂]

/-- A stop that returns ends the submit with the error that it found. -/
theorem stopPhase_answered {b : Bus} {ack : Bool} {x : Byte} {rest : List DrvAnswer} (hs : b.script = .returns ack x :: rest) :
    ∃ b', stopPhase b = (outOfErr b.err, b'.toIdle) ∧ Answered b [.p] rest b' := by
  obtain ⟨b', e, h⟩ := drvCall_answered .stop (fun _ _ => .p) (b := b.at .stop b.seg b.byte) hs
  exact ⟨b', by simp [stopPhase, drvStop, e, h.err], h.of_at⟩

/-! ## A submit against an acknowledging driver (R230 to R234, R237) -/

theorem ackScript_cons (x : Byte) (xs : List Byte) (tail : List DrvAnswer) :
    ackScript (x :: xs) ++ tail = .returns true x :: (ackScript xs ++ tail) := rfl

@[simp] theorem byteAt_cons_zero (x : Byte) (xs : List Byte) : byteAt (x :: xs) 0 = x := rfl

@[simp] theorem byteAt_cons_succ (x : Byte) (xs : List Byte) (j : Nat) : byteAt (x :: xs) (j + 1) = byteAt xs j := rfl

/-- Acknowledged calls, one for each byte of the data: every byte is put out. -/
theorem writeLoop_acked (addr : Addr) (k j : Nat) (data xs : List Byte) (tail : List DrvAnswer) (b : Bus)
    (hl : data.length ≤ xs.length) (hs : b.script = ackScript xs ++ tail) :
    ∃ b', writeLoop addr k j data b = (.done, b') ∧
      Answered b (data.map fun x => .w x true) (ackScript (xs.drop data.length) ++ tail) b' := by
  induction data generalizing j xs b with
  | nil => exact ⟨b, rfl, by simpa [← hs] using Answered.nothing b⟩
  | cons d data ih =>
    obtain _ | ⟨x, xs⟩ := xs
    · simp at hl
    · obtain ⟨b₁, e₁, h₁⟩ := drvCall_answered .wbyte (fun ack _ => .w d ack) (b := b.at .wdata k j) (hs.trans (ackScript_cons ..))
      obtain ⟨b', e', h'⟩ := ih (j + 1) xs b₁ (by simpa using hl) h₁.script
      exact ⟨b', by simpa [writeLoop, drvWbyte, e₁] using e', h₁.of_at.trans h'⟩

/-- Acknowledged calls, one for each byte of the segment: the bytes answered are stored in order. -/
theorem readLoop_acked (k len j : Nat) (olds xs : List Byte) (tail : List DrvAnswer) (b : Bus)
    (hl : olds.length ≤ xs.length) (hs : b.script = ackScript xs ++ tail) :
    ∃ b', readLoop k len j olds b = (.done, (List.range olds.length).map (byteAt xs), b') ∧
      Answered b ((List.range olds.length).map fun i => .r (ackNextOf (j + i) len) (byteAt xs i))
        (ackScript (xs.drop olds.length) ++ tail) b' := by
  induction olds generalizing j xs b with
  | nil => exact ⟨b, rfl, by simpa [← hs] using Answered.nothing b⟩
  | cons old olds ih =>
    obtain _ | ⟨x, xs⟩ := xs
    · simp at hl
    · obtain ⟨b₁, e₁, h₁⟩ :=
        drvCall_answered .rbyte (fun _ y => .r (ackNextOf j len) y) (b := b.at .rdata k j) (hs.trans (ackScript_cons ..))
      obtain ⟨b', e', h'⟩ := ih (j + 1) xs b₁ (by simpa using hl) h₁.script
      refine ⟨b', ?_, ?_⟩
      · simp [readLoop, drvRbyte, e₁, e', List.range_succ_eq_map, Function.comp_def]
      · have h := h₁.of_at.trans h'
        simpa [List.range_succ_eq_map, Function.comp_def, Nat.add_right_comm, Nat.add_assoc] using h

/-- Every byte but the last asks the device to go on (R233). -/
theorem ackNextOf_eq {j len : Nat} (h : j < len) : ackNextOf j len = decide (j + 1 < len) := by
  simp only [ackNextOf, decide_eq_decide]
  omega

/-- An acknowledging driver takes a segment through: one answer for its condition, one for its address, one for each data byte. -/
theorem runSegment_acked (k : Nat) (g : Segment) (xs : List Byte) (tail : List DrvAnswer) (b : Bus)
    (hl : 2 + g.data.length ≤ xs.length) (hs : b.script = ackScript xs ++ tail) :
    ∃ b', runSegment k g b = (.done, segmentAfter g xs, b') ∧
      Answered b (segmentTrace k g xs) (ackScript (xs.drop (2 + g.data.length)) ++ tail) b' := by
  obtain ⟨x, y, ys, rfl⟩ : ∃ x y ys, xs = x :: y :: ys := by
    match xs, hl with
    | x :: y :: ys, _ => exact ⟨x, y, ys, rfl⟩
    | [_], hl | [], hl => simp only [List.length_cons, List.length_nil] at hl; omega
  have hlen : g.data.length ≤ ys.length := by simp only [List.length_cons] at hl; omega
  obtain ⟨b₁, e₁, h₁⟩ := runSegment_answered k g (hs.trans (ackScript_cons ..))
  rw [e₁, if_pos rfl, Nat.add_comm 2]
  cases hd : g.dir with
  | write =>
    obtain ⟨b', e', h'⟩ := writeLoop_acked g.addr k 0 g.data ys tail b₁ hlen h₁.script
    exact ⟨b', by simp [dataPhase_write hd, e', segmentAfter, hd], by simpa [segmentTrace, hd] using h₁.trans h'⟩
  | read =>
    obtain ⟨b', e', h'⟩ := readLoop_acked k g.data.length 0 g.data ys tail b₁ hlen h₁.script
    have hnext : (List.range g.data.length).map (fun i => BusEvent.r (ackNextOf (0 + i) g.data.length) (byteAt ys i)) =
        (List.range g.data.length).map fun i => .r (decide (i + 1 < g.data.length)) (byteAt ys i) :=
      List.map_congr_left fun i hi => by rw [Nat.zero_add, ackNextOf_eq (List.mem_range.1 hi)]
    rw [hnext] at h'
    exact ⟨b', by simp [dataPhase_read hd, e', segmentAfter, hd],
      by simpa [segmentTrace, hd] using h₁.trans h'⟩

/-- The calls that the segments of a list make when every one of them is acknowledged. -/
def segmentCalls (gs : List Segment) : Nat := (gs.map fun g => 2 + g.data.length).sum

@[simp] theorem segmentCalls_nil : segmentCalls [] = 0 := rfl

@[simp] theorem segmentCalls_cons (g : Segment) (gs : List Segment) :
    segmentCalls (g :: gs) = 2 + g.data.length + segmentCalls gs := by
  simp [segmentCalls]

theorem callBound_eq (gs : List Segment) : callBound gs = segmentCalls gs + 1 := rfl

theorem runSegments_acked (gs : List Segment) (k : Nat) (xs : List Byte) (tail : List DrvAnswer) (b : Bus)
    (hl : segmentCalls gs ≤ xs.length) (hs : b.script = ackScript xs ++ tail) :
    ∃ b', runSegments k gs b = (.done, segmentsAfter gs xs, b') ∧
      Answered b (segmentsTrace k gs xs) (ackScript (xs.drop (segmentCalls gs)) ++ tail) b' := by
  induction gs generalizing k xs b with
  | nil => exact ⟨b, rfl, by simpa [← hs, segmentsTrace] using Answered.nothing b⟩
  | cons g gs ih =>
    rw [segmentCalls_cons] at hl
    obtain ⟨b₁, e₁, h₁⟩ := runSegment_acked k g xs tail b (by omega) hs
    obtain ⟨b', e', h'⟩ := ih (k + 1) (xs.drop (2 + g.data.length)) b₁ (by rw [List.length_drop]; omega) h₁.script
    refine ⟨b', by simp [runSegments, e₁, e', segmentsAfter], ?_⟩
    rw [List.drop_drop, ← segmentCalls_cons] at h'
    exact h₁.trans h'

/-- The error that the segment loop hands to the stop phase. -/
def LoopOut.err : LoopOut → Option BusFault
  | .failed f => some f
  | .done | .blocked => none

/-- A submit of something whose segments came to an end is ended by the stop phase, which finds their failure, if there is one. -/
theorem engineSubmit_of_ended {segs segs' : List Segment} {b b' : Bus} {o : LoopOut} (hne : segs ≠ [])
    (h : runSegments 0 segs (b.withErr none) = (o, segs', b')) (ho : o ≠ .blocked) (he : b'.err = none) :
    engineSubmit segs b = ((stopPhase (b'.withErr o.err)).1, segs', (stopPhase (b'.withErr o.err)).2) := by
  have hself : b'.withErr none = b' := by rw [← he]; rfl
  cases segs with
  | nil => exact absurd rfl hne
  | cons g gs => cases o <;> simp_all [engineSubmit, LoopOut.err]

/-- Settles O39: the answers of the segments are used up one for one, and the last one acknowledges the stop. -/
theorem acknowledgedSubmitRunsEverySegment : Obligations.AcknowledgedSubmitRunsEverySegment := by
  intro s xs tail hv hc hne hl hs
  rw [callBound_eq] at hl
  obtain ⟨b₁, e₁, h₁⟩ := runSegments_acked s.txn.segs 0 xs tail (s.bus.withErr none) (by omega) hs
  obtain ⟨x, hx⟩ : ∃ x, xs.drop (segmentCalls s.txn.segs) = [x] :=
    List.length_eq_one_iff.1 (by rw [List.length_drop]; omega)
  rw [hx] at h₁
  have hrun := engineSubmit_of_ended hne e₁ nofun h₁.err
  obtain ⟨b₂, e₂, h₂⟩ := stopPhase_answered (b := b₁.withErr none) h₁.script
  refine ⟨b₂.toIdle, exec_busSubmit_of_ok hv hc ?_, ?_, h₂.script, rfl, rfl, h₂.draws.trans h₁.draws, h₂.blocked.trans h₁.blocked⟩
  · exact hrun.trans (by rw [LoopOut.err, e₂]; rfl)
  · simp [h₂.trace, h₁.trace]

/-- Settles O44: the transaction of R245 in O39, its letters and segments computed. -/
theorem threeSegmentExample : Obligations.ThreeSegmentExample := by
  intro s x tail htxn hs
  obtain ⟨b, e, ht, -⟩ := acknowledgedSubmitRunsEverySegment s _ tail (by rw [htxn]) (by rw [htxn]) (by simp [htxn])
    (by rw [htxn]; rfl) hs
  rw [htxn] at e ht
  exact ⟨_, e, rfl, ht.trans (List.append_assoc ..), rfl⟩

/-! ## The first address byte not acknowledged (R231, R246) -/

theorem engineSubmit_refused (g : Segment) (gs : List Segment) {b : Bus} {a₁ a₃ : Bool} {x₁ x₂ x₃ : Byte} {tail : List DrvAnswer}
    (hs : b.script = .returns a₁ x₁ :: .returns false x₂ :: .returns a₃ x₃ :: tail) :
    ∃ b', engineSubmit (g :: gs) b = (.fault (.nackAddress g.addr), g :: gs, b') ∧
      b'.trace = b.trace ++ [.s, .a g.addr (decide (g.dir = .read)) false, .p] ∧ b'.phase = .idle ∧ b'.err = none := by
  obtain ⟨b₁, e₁, h₁⟩ := runSegment_answered 0 g (b := b.withErr none) hs
  have hrun : runSegments 0 (g :: gs) (b.withErr none) = (.failed (.nackAddress g.addr), g :: gs, b₁) := by simp [runSegments, e₁]
  obtain ⟨b₂, e₂, h₂⟩ := stopPhase_answered (b := b₁.withErr (some (.nackAddress g.addr))) h₁.script
  refine ⟨b₂.toIdle, ?_, ?_, rfl, rfl⟩
  · rw [engineSubmit_of_ended (List.cons_ne_nil g gs) hrun nofun h₁.err, LoopOut.err, e₂]
    rfl
  · simp [h₂.trace, h₁.trace]

/-- Settles O43: the segment loop ends with the second call, and the third one is the stop. -/
theorem firstAddressNackAbortsWithAStop : Obligations.FirstAddressNackAbortsWithAStop := by
  constructor
  · intro s g gs a₁ a₃ x₁ x₂ x₃ tail htxn hs
    obtain ⟨b, e, hb⟩ := engineSubmit_refused g gs hs
    have h := exec_busSubmit_of_fault (s := s) (by rw [htxn]) (by rw [htxn]) ((congrArg (engineSubmit ·.segs s.bus) htxn).trans e)
    rw [htxn] at h
    exact ⟨b, h, hb⟩
  · intro s a₁ a₃ x₁ x₂ x₃ tail htxn hs ht
    obtain ⟨b, e, hb, -⟩ := engineSubmit_refused ⟨.write, 0x03, [0x40, 0x41]⟩
      [⟨.write, 0x04, [0x01, 0x02, 0x03]⟩, ⟨.read, 0x04, [0x00]⟩] hs
    have h := exec_busSubmit_of_fault (s := s) (by rw [htxn]) (by rw [htxn]) ((congrArg (engineSubmit ·.segs s.bus) htxn).trans e)
    exact ⟨_, h, by rw [ht] at hb; exact hb, rfl, rfl⟩

end Sys2Proof.Machine
end

section
/-! PROOFS of the statements about the bus engine (45_bus_engine.md), second part: how a submit can end. The letters of the
segment loop are followed together with the place that `firstFailure` gives them in the list of segments (R230 to R236, R292). -/

namespace Sys2Proof.Machine

open Sys2Proof.Claim

/-! ## The first failure of a history -/

theorem firstFailure_eq_none_iff (addr : Addr) (k j : Nat) (es : List BusEvent) :
    firstFailure addr k j es = none ↔ ∀ e ∈ es, isFailure e = false := by
  induction es generalizing addr k j with
  | nil => simp [firstFailure]
  | cons e es ih =>
    cases e with
    | a _ _ ack => cases ack <;> simp [firstFailure, isFailure, ih]
    | w _ ack => cases ack <;> simp [firstFailure, isFailure, ih]
    | _ => simp [firstFailure, isFailure, ih]

/-- What follows the first failure does not matter. -/
theorem firstFailure_append {addr : Addr} {k j : Nat} {es : List BusEvent} {f : BusFault}
    (h : firstFailure addr k j es = some f) (rest : List BusEvent) : firstFailure addr k j (es ++ rest) = some f := by
  induction es generalizing addr k j with
  | nil => simp [firstFailure] at h
  | cons e es ih =>
    cases e with
    | a _ _ ack => cases ack <;> simp_all [firstFailure]
    | w _ ack => cases ack <;> simp_all [firstFailure]
    | _ => simp_all [firstFailure]

/-! ## How a loop of the engine ends -/

/-- The faults that segment `k` can end with, each with the letter it leaves (R231, R232, R236). -/
inductive SegmentFailure (k : Nat) (g : Segment) : BusFault → BusEvent → Prop where
  | address : SegmentFailure k g (.nackAddress g.addr) (.a g.addr (decide (g.dir = .read)) false)
  | data {j : Nat} {x : Byte} (dir : g.dir = .write) (byte : g.data[j]? = some x) :
      SegmentFailure k g (.nackDataWrite g.addr k j) (.w x false)
  | driver (call : Prim) : SegmentFailure k g (.driverFault call) (.x call)

/-- The letters `es` of a loop that ended with `o`, read by `firstFailure` from the place `addr`, `k`, `j` on: a loop that is done
leaves no failure and brings `firstFailure` to segment `m`; one that failed leaves a failure with a cause in `P` last. -/
inductive Ended (P : BusFault → BusEvent → Prop) (addr : Addr) (k j m : Nat) : LoopOut → List BusEvent → Prop where
  | done {es : List BusEvent} (clean : ∀ e ∈ es, isFailure e = false)
      (next : ∃ addr' j', ∀ rest, firstFailure addr k j (es ++ rest) = firstFailure addr' m j' rest) : Ended P addr k j m .done es
  | failed {es : List BusEvent} {f : BusFault} {e : BusEvent} (clean : ∀ e ∈ es, isFailure e = false) (cause : P f e)
      (first : firstFailure addr k j (es ++ [e]) = some f) : Ended P addr k j m (.failed f) (es ++ [e])
  | blocked (es : List BusEvent) : Ended P addr k j m .blocked es

section
variable {P Q : BusFault → BusEvent → Prop} {addr addr' : Addr} {k j k' j' m : Nat} {o : LoopOut}

theorem Ended.nothing (P : BusFault → BusEvent → Prop) (addr : Addr) (k j : Nat) : Ended P addr k j k .done [] :=
  .done nofun ⟨addr, j, fun _ => rfl⟩

/-- The first letter is the failure. -/
theorem Ended.failure {f : BusFault} {e : BusEvent} (cause : P f e) (first : firstFailure addr k j [e] = some f) :
    Ended P addr k j m (.failed f) [e] :=
  .failed (es := []) nofun cause first

/-- A letter that is no failure moves the place at which `firstFailure` reads the others. -/
theorem Ended.cons {e : BusEvent} {es : List BusEvent} (he : isFailure e = false)
    (hf : ∀ es, firstFailure addr k j (e :: es) = firstFailure addr' k' j' es) (h : Ended P addr' k' j' m o es) :
    Ended P addr k j m o (e :: es) := by
  cases h with
  | done clean next =>
    obtain ⟨a, i, hn⟩ := next
    exact .done (by simpa [he] using clean) ⟨a, i, fun rest => (hf _).trans (hn rest)⟩
  | failed clean cause first => exact .failed (es := e :: _) (by simpa [he] using clean) cause ((hf _).trans first)
  | blocked => exact .blocked _

/-- Behind the letters of a loop that is done, those of the next one are read from the place that `firstFailure` has come to. -/
theorem Ended.before {es : List BusEvent} (h : Ended P addr k j m .done es) :
    ∃ addr' j', ∀ {o m' es'}, Ended P addr' m j' m' o es' → Ended P addr k j m' o (es ++ es') := by
  cases h with
  | done clean next =>
    obtain ⟨a, i, hn⟩ := next
    have hclean {es' : List BusEvent} (clean' : ∀ e ∈ es', isFailure e = false) : ∀ e ∈ es ++ es', isFailure e = false :=
      fun e he => (List.mem_append.1 he).elim (clean e) (clean' e)
    refine ⟨a, i, fun h' => ?_⟩
    cases h' with
    | done clean' next' =>
      obtain ⟨a', i', hn'⟩ := next'
      exact .done (hclean clean') ⟨a', i', fun rest => by rw [List.append_assoc, hn, hn']⟩
    | failed clean' cause first =>
      rw [← List.append_assoc]
      exact .failed (hclean clean') cause (by rw [List.append_assoc, hn, first])
    | blocked => exact .blocked _

theorem Ended.mono {es : List BusEvent} (h : Ended P addr k j m o es) (hPQ : ∀ f e, P f e → Q f e) : Ended Q addr k j m o es := by
  cases h with
  | done clean next => exact .done clean next
  | failed clean cause first => exact .failed clean (hPQ _ _ cause) first
  | blocked => exact .blocked _

/-- Only the last letter can be a failure. -/
theorem Ended.clean_dropLast {es : List BusEvent} (h : Ended P addr k j m o es) (ho : o ≠ .blocked) :
    ∀ e ∈ es.dropLast, isFailure e = false := by
  cases h with
  | done clean => exact fun e he => clean e (List.mem_of_mem_dropLast he)
  | failed clean => simpa using clean
  | blocked => exact absurd rfl ho

/-- A loop that failed has left the letter of its failure last. -/
theorem Ended.getLast_failure {es : List BusEvent} {f : BusFault} (h : Ended P addr k j m o es) (ho : o.err = some f) :
    ∃ e, P f e ∧ es.getLast? = some e := by
  cases h with
  | failed clean cause first =>
    cases ho
    exact ⟨_, cause, by simp⟩
  | done | blocked => cases ho

/-- The first failure once the stop has been called: the loop's own, and only where there is none that of the stop (R289, R294). -/
theorem Ended.firstFailure_stop {es : List BusEvent} (h : Ended P addr k j m o es) (ho : o ≠ .blocked) :
    firstFailure addr k j (es ++ [.p]) = o.err ∧
    firstFailure addr k j (es ++ [.x .stop]) = (o.err <|> some (.driverFault .stop)) := by
  cases h with
  | done clean next =>
    obtain ⟨a, i, hn⟩ := next
    exact ⟨hn _, hn _⟩
  | failed clean cause first => exact ⟨firstFailure_append first _, firstFailure_append first _⟩
  | blocked => exact absurd rfl ho

end

/-! ## The segment loop -/

/-- From `b` to `b'` the history gains the letters `es` and `eng_err` stays as it is. -/
structure Leaves (b : Bus) (es : List BusEvent) (b' : Bus) : Prop where
  trace : b'.trace = b.trace ++ es
  err : b'.err = b.err

theorem Leaves.nothing (b : Bus) : Leaves b [] b := ⟨by simp, rfl⟩

theorem Leaves.letter {b b₁ : Bus} (ht : b₁.trace = b.trace) (he : b₁.err = b.err) (e : BusEvent) : Leaves b [e] (b₁.record e) :=
  ⟨by simp [ht], he⟩

/-- A call that has not returned leaves no letter (log 4). -/
theorem Leaves.stuck {b b₁ : Bus} (ht : b₁.trace = b.trace) (he : b₁.err = b.err) (call : Prim) : Leaves b [] (b₁.block call) :=
  ⟨by simp [ht], he⟩

theorem Leaves.trans {b b₁ b' : Bus} {es es' : List BusEvent} (h : Leaves b es b₁) (h' : Leaves b₁ es' b') :
    Leaves b (es ++ es') b' :=
  ⟨by simp [h'.trace, h.trace], h'.err.trans h.err⟩

/-- A loop of segment `k` that took `b` to `b'` and ended with `o`, read by `firstFailure` from the place `addr`, `n`, `j` on. -/
def SegmentEnds (k : Nat) (g : Segment) (addr : Addr) (n j : Nat) (b : Bus) (o : LoopOut) (b' : Bus) : Prop :=
  b'.seg = k ∧ ∃ es, Leaves b es b' ∧ Ended (SegmentFailure k g) addr n j k o es

section
variable {k : Nat} {g : Segment} {addr addr' : Addr} {n j n' j' : Nat} {b b₁ b' : Bus} {o : LoopOut}

theorem SegmentEnds.failure {f : BusFault} {e : BusEvent} (hs : b₁.seg = k) (ht : b₁.trace = b.trace) (he : b₁.err = b.err)
    (cause : SegmentFailure k g f e) (first : firstFailure addr n j [e] = some f) :
    SegmentEnds k g addr n j b (.failed f) (b₁.record e) :=
  ⟨hs, [e], .letter ht he e, .failure cause first⟩

theorem SegmentEnds.stuck (hs : b₁.seg = k) (ht : b₁.trace = b.trace) (he : b₁.err = b.err) (call : Prim) :
    SegmentEnds k g addr n j b .blocked (b₁.block call) :=
  ⟨hs, [], .stuck ht he call, .blocked _⟩

theorem SegmentEnds.cons {e : BusEvent} (ht : b₁.trace = b.trace) (he : b₁.err = b.err) (hno : isFailure e = false)
    (hf : ∀ es, firstFailure addr n j (e :: es) = firstFailure addr' n' j' es)
    (h : SegmentEnds k g addr' n' j' (b₁.record e) o b') : SegmentEnds k g addr n j b o b' := by
  obtain ⟨hs, es, hl, hends⟩ := h
  exact ⟨hs, e :: es, (Leaves.letter ht he e).trans hl, hends.cons hno hf⟩

end

theorem writeLoop_ends {k : Nat} {g : Segment} (hw : g.dir = .write) {j : Nat} {xs : List Byte} (hx : g.data.drop j = xs)
    {b : Bus} (hb : b.seg = k) :
    SegmentEnds k g g.addr k j b (writeLoop g.addr k j xs b).1 (writeLoop g.addr k j xs b).2 := by
  induction xs generalizing j b with
  | nil => exact ⟨hb, [], .nothing b, .nothing _ _ _ _⟩
  | cons x xs ih =>
    have hbyte : g.data[j]? = some x := by rw [← List.head?_drop, hx]; rfl
    have hrest : g.data.drop (j + 1) = xs := by rw [← List.tail_drop, hx]; rfl
    obtain ⟨b₁, -, hs, -, he, ht, -, e | e | e | e⟩ := writeLoop_cons g.addr k j x xs b <;> rw [e]
    · exact .cons ht he rfl (fun _ => rfl) (ih hrest hs)
    · exact .failure hs ht he (.data hw hbyte) rfl
    · exact .failure hs ht he (.driver _) rfl
    · exact .stuck hs ht he _

theorem readLoop_ends (k len : Nat) (g : Segment) (i j : Nat) (olds : List Byte) {b : Bus} (hb : b.seg = k) :
    SegmentEnds k g g.addr k i b (readLoop k len j olds b).1 (readLoop k len j olds b).2.2 := by
  induction olds generalizing j b with
  | nil => exact ⟨hb, [], .nothing b, .nothing _ _ _ _⟩
  | cons old olds ih =>
    obtain ⟨b₁, -, hs, -, he, ht, -, ⟨x, o, xs, b₂, e₂, e⟩ | e | e⟩ := readLoop_cons k len j old olds b <;> rw [e]
    · have h := ih (j + 1) (b := b₁.record (.r (ackNextOf j len) x)) hs
      rw [e₂] at h
      exact .cons ht he rfl (fun _ => rfl) h
    · exact .failure hs ht he (.driver _) rfl
    · exact .stuck hs ht he _

theorem dataPhase_ends (k : Nat) (g : Segment) {b : Bus} (hb : b.seg = k) :
    SegmentEnds k g g.addr k 0 b (dataPhase k g b).1 (dataPhase k g b).2.2 := by
  cases hd : g.dir with
  | write => rw [dataPhase_write hd]; exact writeLoop_ends hd rfl hb
  | read => rw [dataPhase_read hd]; exact readLoop_ends k _ g 0 0 g.data hb

theorem addrPhase_ends (k : Nat) (g : Segment) (addr : Addr) (j : Nat) (b : Bus) :
    SegmentEnds k g addr k j b (addrPhase k g b).1 (addrPhase k g b).2.2 := by
  obtain ⟨b₁, -, hs, -, he, ht, -, e | e | e | e⟩ := addrPhase_cases k g b <;> rw [e]
  · exact .cons ht he rfl (fun _ => rfl) (dataPhase_ends k g hs)
  · exact .failure hs ht he .address rfl
  · exact .failure hs ht he (.driver _) rfl
  · exact .stuck hs ht he _

/-- A repeated start is where `firstFailure` goes on to the next segment; the start before segment 0 leaves it there. -/
theorem firstFailure_condition (addr : Addr) (k j : Nat) (es : List BusEvent) :
    firstFailure addr (k - 1) j ((if k = 0 then .s else .sr) :: es) = firstFailure addr k j es := by
  cases k <;> rfl

theorem runSegment_ends (k : Nat) (g : Segment) (addr : Addr) (j : Nat) (b : Bus) :
    SegmentEnds k g addr (k - 1) j b (runSegment k g b).1 (runSegment k g b).2.2 := by
  obtain ⟨b₁, -, hs, -, he, ht, -, e | e | e⟩ := runSegment_cases k g b <;> rw [e]
  · exact .cons ht he (by split <;> rfl) (firstFailure_condition addr k j) (addrPhase_ends k g addr j _)
  · exact .failure hs ht he (.driver _) rfl
  · exact .stuck hs ht he _

/-- A failure of one of the segments `gs`, the first of them numbered `k`. -/
def ListFailure (k : Nat) (gs : List Segment) (f : BusFault) (e : BusEvent) : Prop :=
  ∃ i g, gs[i]? = some g ∧ SegmentFailure (k + i) g f e

theorem SegmentFailure.head {k : Nat} {g : Segment} {f : BusFault} {e : BusEvent} (h : SegmentFailure k g f e)
    (gs : List Segment) : ListFailure k (g :: gs) f e :=
  ⟨0, g, rfl, h⟩

theorem ListFailure.tail {k : Nat} {gs : List Segment} {f : BusFault} {e : BusEvent} (h : ListFailure (k + 1) gs f e)
    (g : Segment) : ListFailure k (g :: gs) f e := by
  obtain ⟨i, g', hi, h⟩ := h
  exact ⟨i + 1, g', hi, by rwa [Nat.add_comm i, ← Nat.add_assoc]⟩

theorem runSegments_ends (gs : List Segment) (k : Nat) (addr : Addr) (j : Nat) (b : Bus) :
    ∃ es m, Leaves b es (runSegments k gs b).2.2 ∧ Ended (ListFailure k gs) addr (k - 1) j m (runSegments k gs b).1 es := by
  induction gs generalizing k addr j b with
  | nil => exact ⟨[], k - 1, .nothing b, .nothing _ _ _ _⟩
  | cons g gs ih =>
    obtain ⟨-, es, hl, hends⟩ := runSegment_ends k g addr j b
    replace hends := hends.mono fun _ _ h => h.head gs
    obtain ⟨g', b₁, o, gs', b₂, e₁, e₂, e⟩ | ⟨f, g', b₁, e₁, e⟩ | ⟨g', b₁, e₁, e⟩ := runSegments_cons k g gs b <;>
      rw [e] <;> rw [e₁] at hl hends
    · obtain ⟨addr', j', hbefore⟩ := hends.before
      obtain ⟨es', m, hl', hends'⟩ := ih (k + 1) addr' j' b₁
      rw [e₂] at hl' hends'
      exact ⟨es ++ es', m, hl.trans hl', hbefore (hends'.mono fun _ _ h => h.tail g)⟩
    · exact ⟨es, k, hl, hends⟩
    · exact ⟨es, k, hl, hends⟩

/-! ## The whole submit -/

/-- The first segment, unless its condition does not return, begins with the start call. -/
theorem SegmentLetters.first {o : LoopOut} {es : List BusEvent} (h : SegmentLetters 0 o es) (ho : o ≠ .blocked) :
    ∃ first mid, isStartCall first = true ∧ es = first :: mid := by
  cases h with
  | begun o inner => exact ⟨_, _, rfl, rfl⟩
  | failed f => exact ⟨_, _, rfl, rfl⟩
  | stuck => exact absurd rfl ho

theorem runSegments_starts (g : Segment) (gs : List Segment) (b : Bus) (ho : (runSegments 0 (g :: gs) b).1 ≠ .blocked) :
    ∃ first mid, isStartCall first = true ∧ (runSegments 0 (g :: gs) b).2.2.trace = b.trace ++ first :: mid := by
  obtain ⟨es, hg, hl, -⟩ := runSegment_gains 0 g b
  obtain ⟨g', b₁, o, gs', b₂, e₁, e₂, e⟩ | ⟨f, g', b₁, e₁, e⟩ | ⟨g', b₁, e₁, e⟩ := runSegments_cons 0 g gs b <;>
    rw [e] at ho ⊢ <;> rw [e₁] at hg hl
  · obtain ⟨first, mid, hstart, rfl⟩ := hl.first nofun
    obtain ⟨es', hg', -⟩ := runSegments_calls gs 1 b₁
    rw [e₂] at hg'
    exact ⟨first, mid ++ es', hstart, hg'.trace.trans ((congrArg (· ++ es') hg.trace).trans (List.append_assoc ..))⟩
  · obtain ⟨first, mid, hstart, rfl⟩ := hl.first nofun
    exact ⟨first, mid, hstart, hg.trace⟩
  · exact absurd rfl ho

theorem callCount_eq_zero_iff (p : BusEvent → Bool) (es : List BusEvent) : callCount p es = 0 ↔ ∀ e ∈ es, p e = false := by
  simp [callCount]

/-- What the segment loop of something leaves: the start call first, no other start and no stop (R230, R234). -/
theorem runSegments_exchange (g : Segment) (gs : List Segment) (b : Bus) (ho : (runSegments 0 (g :: gs) b).1 ≠ .blocked) :
    ∃ first mid m, Leaves b (first :: mid) (runSegments 0 (g :: gs) b).2.2 ∧ isStartCall first = true ∧
      (∀ e ∈ mid, isStartCall e = false ∧ isStopCall e = false) ∧
      Ended (ListFailure 0 (g :: gs)) 0 0 0 m (runSegments 0 (g :: gs) b).1 (first :: mid) := by
  obtain ⟨first, mid, hstart, ht⟩ := runSegments_starts g gs b ho
  obtain ⟨es, hg, hnostop, -, hone⟩ := runSegments_calls (g :: gs) 0 b
  obtain ⟨es', m, hl, hends⟩ := runSegments_ends (g :: gs) 0 0 0 b
  obtain rfl : es = first :: mid := List.append_cancel_left (hg.trace.symm.trans ht)
  obtain rfl : es' = first :: mid := List.append_cancel_left (hl.trace.symm.trans ht)
  have hone := hone nofun ho
  rw [callCount_cons] at hone hnostop
  have hnostart : callCount isStartCall mid = 0 := by simp [hstart, startCalls] at hone; exact hone
  have hnostop : callCount isStopCall mid = 0 := by omega
  rw [callCount_eq_zero_iff] at hnostart hnostop
  exact ⟨first, mid, m, hl, hstart, fun e he => ⟨hnostart e he, hnostop e he⟩, hends⟩

/-- A stop call that has returned or failed ends the submit with the first failure of the letters before it and of its own. -/
theorem stopPhase_ends {P : BusFault → BusEvent → Prop} {m : Nat} {o : LoopOut} {es : List BusEvent}
    (h : Ended P 0 0 0 m o es) (ho : o ≠ .blocked) {b : Bus} (he : b.err = o.err) (hstop : (stopPhase b).1 ≠ .blocked) :
    ∃ last, isStopCall last = true ∧ (stopPhase b).2.trace = b.trace ++ [last] ∧
      (stopPhase b).1 = outOfErr (firstFailure 0 0 0 (es ++ [last])) ∧
      (firstFailure 0 0 0 (es ++ [last]) = o.err ∨ firstFailure 0 0 0 (es ++ [last]) = some (.driverFault .stop)) := by
  obtain ⟨hp, hx⟩ := h.firstFailure_stop ho
  obtain ⟨b', ht, -, -, -, e | e | e⟩ := stopPhase_cases b <;> rw [e] at hstop ⊢
  · exact ⟨.p, rfl, by simp [ht], by rw [hp, he], .inl hp⟩
  · refine ⟨.x .stop, rfl, by simp [ht], by rw [hx, he], ?_⟩
    cases herr : o.err with
    | none => exact .inr (by rw [hx, herr]; rfl)
    | some f => exact .inl (by rw [hx, herr]; rfl)
  · exact absurd rfl hstop

theorem outOfErr_eq_ok_iff (e : Option BusFault) : outOfErr e = .ok ↔ e = none := by cases e <;> simp [outOfErr]

theorem outOfErr_eq_fault_iff (e : Option BusFault) (f : BusFault) : outOfErr e = .fault f ↔ e = some f := by
  cases e <;> simp [outOfErr]

/-- A submit of `segs` that made the calls `first :: (mid ++ [last])` and came to `o`: a start, the segments' other calls, a stop
(R230, R234). -/
structure Exchange (segs : List Segment) (o : EngineOut) (first : BusEvent) (mid : List BusEvent) (last : BusEvent) : Prop where
  start : isStartCall first = true
  stop : isStopCall last = true
  between : ∀ e ∈ mid, isStartCall e = false ∧ isStopCall e = false
  out : o = outOfErr (firstFailure 0 0 0 (first :: (mid ++ [last])))
  clean : ∀ e ∈ (first :: mid).dropLast, isFailure e = false
  cause : ∀ f, o = .fault f → f = .driverFault .stop ∨ ∃ e, ListFailure 0 segs f e ∧ (first :: mid).getLast? = some e

theorem engineSubmit_exchange {segs segs' : List Segment} {b b' : Bus} {o : EngineOut} (hne : segs ≠ [])
    (h : engineSubmit segs b = (o, segs', b')) (ho : o ≠ .blocked) :
    ∃ first mid last, b'.trace = b.trace ++ first :: (mid ++ [last]) ∧ Exchange segs o first mid last ∧
      b'.phase = .idle ∧ b'.err = none := by
  obtain _ | ⟨g, gs⟩ := segs
  · exact absurd rfl hne
  rcases hrun : runSegments 0 (g :: gs) (b.withErr none) with ⟨loop, gs', b₁⟩
  have hloop : loop ≠ .blocked := by
    rintro rfl
    simp only [engineSubmit, hrun, Prod.mk.injEq] at h
    exact ho h.1.symm
  obtain ⟨first, mid, m, hl, hstart, hmid, hends⟩ := runSegments_exchange g gs (b.withErr none) (by rw [hrun]; exact hloop)
  rw [hrun] at hl hends
  obtain ⟨rfl, -, rfl⟩ : (stopPhase (b₁.withErr loop.err)).1 = o ∧ gs' = segs' ∧ (stopPhase (b₁.withErr loop.err)).2 = b' := by
    simpa using (engineSubmit_of_ended hne hrun hloop hl.err).symm.trans h
  obtain ⟨last, hlast, ht, hout, herr⟩ := stopPhase_ends hends hloop rfl ho
  obtain ⟨-, -, hidle, hnone, -⟩ | ⟨hstuck, -⟩ := stopPhase_calls (b₁.withErr loop.err)
  · refine ⟨first, mid, last, ?_, ⟨hstart, hlast, hmid, hout, hends.clean_dropLast hloop, fun f hf => ?_⟩, hidle, hnone⟩
    · exact ht.trans ((congrArg (· ++ [last]) hl.trace).trans (List.append_assoc ..))
    · have hfirst := (outOfErr_eq_fault_iff _ f).1 (hout.symm.trans hf)
      rcases herr with herr | herr
      · exact .inr (hends.getLast_failure (herr.symm.trans hfirst))
      · exact .inl (Option.some.inj (hfirst.symm.trans herr))
  · exact absurd hstuck ho

section
variable {segs : List Segment} {o : EngineOut} {first last : BusEvent} {mid : List BusEvent}

theorem Exchange.ok_iff (h : Exchange segs o first mid last) :
    o = .ok ↔ ∀ e ∈ first :: (mid ++ [last]), isFailure e = false := by
  rw [h.out, outOfErr_eq_ok_iff, firstFailure_eq_none_iff]

theorem Exchange.fault_iff (h : Exchange segs o first mid last) (f : BusFault) :
    o = .fault f ↔ firstFailure 0 0 0 (first :: (mid ++ [last])) = some f := by
  rw [h.out, outOfErr_eq_fault_iff]

/-- A failure that no driver fault caused is that of a segment, whose letter is the last one before the stop. -/
theorem Exchange.segment_failure (h : Exchange segs o first mid last) {f : BusFault} (ho : o = .fault f)
    (hf : ∀ call, f ≠ .driverFault call) :
    ∃ k g e, segs[k]? = some g ∧ SegmentFailure k g f e ∧ mid.getLast? = some e := by
  obtain rfl | ⟨e, ⟨k, g, hk, hcause⟩, hlast⟩ := h.cause f ho
  · exact absurd rfl (hf .stop)
  · rw [Nat.zero_add] at hcause
    refine ⟨k, g, e, hk, hcause, ?_⟩
    have hstart : isStartCall e = false := by
      cases hcause with
      | driver call => exact absurd rfl (hf call)
      | _ => rfl
    obtain rfl | ⟨mid, e', rfl⟩ := mid.eq_nil_or_concat
    · cases hlast
      exact absurd (h.start.symm.trans hstart) nofun
    · rw [List.concat_eq_append] at hlast ⊢
      rw [← List.cons_append, List.getLast?_concat] at hlast
      rw [List.getLast?_concat, hlast]

theorem Exchange.nackDataWrite (h : Exchange segs o first mid last) {a : Addr} {k j : Nat}
    (ho : o = .fault (.nackDataWrite a k j)) :
    ∃ g x, segs[k]? = some g ∧ g.dir = .write ∧ g.addr = a ∧ g.data[j]? = some x ∧ mid.getLast? = some (.w x false) := by
  obtain ⟨k', g, e, hk, hcause, hlast⟩ := h.segment_failure ho nofun
  cases hcause with
  | data hdir hbyte => exact ⟨g, _, hk, hdir, rfl, hbyte, hlast⟩

theorem Exchange.nackAddress (h : Exchange segs o first mid last) {a : Addr} (ho : o = .fault (.nackAddress a)) :
    ∃ g ∈ segs, g.addr = a ∧ mid.getLast? = some (.a a (decide (g.dir = .read)) false) := by
  obtain ⟨k, g, e, hk, hcause, hlast⟩ := h.segment_failure ho nofun
  cases hcause with
  | address => exact ⟨g, List.mem_of_getElem? hk, rfl, hlast⟩

end

/-- Settles O40: a submit that ended is an exchange; one that did not has made no stop call. -/
theorem stopIsCalledOnceAndLast : Obligations.StopIsCalledOnceAndLast := by
  intro segs b b' o segs' hne hb h
  obtain ⟨es, ht, ⟨ho, hfree, -⟩ | ⟨ho, hstuck, hstop, hstart⟩⟩ := engineSubmit_calls h hb
  · refine ⟨fun _ => ?_, fun hstuck => absurd hfree hstuck⟩
    obtain ⟨first, mid, last, htrace, hx, hidle, herr⟩ := engineSubmit_exchange hne h ho
    exact ⟨first, mid, last, htrace, hx.start, hx.stop, hx.between, hx.clean, hx.ok_iff, hx.fault_iff,
      fun _ _ _ => hx.nackDataWrite, fun _ => hx.nackAddress, ho, hidle, herr⟩
  · exact ⟨fun hfree => absurd hfree hstuck, fun _ => ⟨ho, es, ht, hstop, hstart⟩⟩

end Sys2Proof.Machine
end

section
/-! PROOFS of the statements about the bus engine (45_bus_engine.md), third part: the state table of R238 and the algorithm of R228
are the same machine. Each loop of the algorithm is matched with the rows that its calls take. -/

namespace Sys2Proof.Machine

/-! ## Rows of the table -/

/-- At most `n` rows of the table lead from `r` to `r'`. -/
def RowsReach (n : Nat) (r r' : EngineRun) : Prop := ∃ m ≤ n, fsmRun m r = r'

theorem fsmRun_add (m n : Nat) (r : EngineRun) : fsmRun (m + n) r = fsmRun n (fsmRun m r) := by
  induction m generalizing r with
  | zero => rw [Nat.zero_add]; rfl
  | succ m ih => rw [Nat.succ_add]; exact ih (fsmStep r)

/-- A run with an outcome stays as it is. -/
theorem fsmRun_of_out {r : EngineRun} (h : r.out.isSome = true) (n : Nat) : fsmRun n r = r := by
  obtain ⟨o, ho⟩ := Option.isSome_iff_exists.1 h
  induction n with
  | zero => rfl
  | succ n ih => rw [fsmRun, show fsmStep r = r by simp [fsmStep, ho], ih]

theorem RowsReach.refl (n : Nat) (r : EngineRun) : RowsReach n r r := ⟨0, Nat.zero_le n, rfl⟩

theorem RowsReach.row {n : Nat} {r r₁ r' : EngineRun} (h : fsmStep r = r₁) (h' : RowsReach n r₁ r') : RowsReach (n + 1) r r' := by
  obtain ⟨m, hm, e⟩ := h'
  exact ⟨m + 1, Nat.succ_le_succ hm, by rw [fsmRun, h, e]⟩

theorem RowsReach.one {n : Nat} {r r' : EngineRun} (h : fsmStep r = r') : RowsReach (n + 1) r r' := .row h (.refl n r')

theorem RowsReach.trans {n n' : Nat} {r r₁ r' : EngineRun} (h : RowsReach n r r₁) (h' : RowsReach n' r₁ r') :
    RowsReach (n + n') r r' := by
  obtain ⟨m, hm, rfl⟩ := h
  obtain ⟨m', hm', rfl⟩ := h'
  exact ⟨m + m', Nat.add_le_add hm hm', fsmRun_add m m' r⟩

theorem RowsReach.mono {n n' : Nat} {r r' : EngineRun} (h : RowsReach n r r') (hn : n ≤ n') : RowsReach n' r r' := by
  obtain ⟨m, hm, e⟩ := h
  exact ⟨m, hm.trans hn, e⟩

/-- Once the outcome is there, the rows left over change nothing. -/
theorem RowsReach.fsmRun_eq {n : Nat} {r r' : EngineRun} (h : RowsReach n r r') (ho : r'.out.isSome = true) : fsmRun n r = r' := by
  obtain ⟨m, hm, rfl⟩ := h
  rw [← Nat.add_sub_cancel' hm, fsmRun_add, fsmRun_of_out ho]

section
variable {segs : List Segment} {g : Segment} {k : Nat}

theorem fsmStep_start (segs : List Segment) (b : Bus) (k j : Nat) :
    fsmStep ⟨segs, b.at .start k j, none⟩ = fsmStart ⟨segs, b.at .start k j, none⟩ := rfl

theorem fsmStep_addr (h : segs[k]? = some g) (b : Bus) (j : Nat) :
    fsmStep ⟨segs, b.at .addr k j, none⟩ = fsmAddr ⟨segs, b.at .addr k j, none⟩ g := by simp [fsmStep, h]

theorem fsmStep_wdata (h : segs[k]? = some g) (b : Bus) (j : Nat) :
    fsmStep ⟨segs, b.at .wdata k j, none⟩ = fsmWData ⟨segs, b.at .wdata k j, none⟩ g := by simp [fsmStep, h]

theorem fsmStep_rdata (h : segs[k]? = some g) (b : Bus) (j : Nat) :
    fsmStep ⟨segs, b.at .rdata k j, none⟩ = fsmRData ⟨segs, b.at .rdata k j, none⟩ g := by simp [fsmStep, h]

theorem fsmStep_stop (segs : List Segment) (b : Bus) (k j : Nat) :
    fsmStep ⟨segs, b.at .stop k j, none⟩ = fsmStop ⟨segs, b.at .stop k j, none⟩ := rfl

end

/-! ## The rows of one segment -/

/-- Where the table goes when a loop of a segment has ended with `o`, the segments being `segs` then. -/
def afterLoop (segs : List Segment) (o : LoopOut) (b : Bus) : EngineRun :=
  match o with
  | .done => EngineRun.nextSegment ⟨segs, b, none⟩ b
  | .failed f => EngineRun.fail ⟨segs, b, none⟩ b f
  | .blocked => EngineRun.stuck ⟨segs, b, none⟩ b

/-- The data phase of segment `k` at byte `j` of `len`: its row, or what follows the segment when there is no byte left. -/
def dataRow (phase : Phase) (segs : List Segment) (k j len : Nat) (b : Bus) : EngineRun :=
  if j < len then ⟨segs, b.at phase k j, none⟩ else afterLoop segs .done b

theorem dataRow_of_lt {j len : Nat} (h : j < len) (phase : Phase) (segs : List Segment) (k : Nat) (b : Bus) :
    dataRow phase segs k j len b = ⟨segs, b.at phase k j, none⟩ := if_pos h

theorem dataRow_of_le {j len : Nat} (h : len ≤ j) (phase : Phase) (segs : List Segment) (k : Nat) (b : Bus) :
    dataRow phase segs k j len b = afterLoop segs .done b := if_neg (Nat.not_lt.2 h)

theorem drop_eq_cons {xs ys : List Byte} {j : Nat} {y : Byte} (h : xs.drop j = y :: ys) :
    j < xs.length ∧ byteAt xs j = y ∧ xs.drop (j + 1) = ys := by
  have hy : xs[j]? = some y := by rw [← List.head?_drop, h]; rfl
  exact ⟨(List.getElem?_eq_some_iff.1 hy).1, byteAt_of_getElem? hy, by rw [← List.tail_drop, h]; rfl⟩

theorem writeLoop_rows {segs : List Segment} {g : Segment} {k j : Nat} {xs : List Byte} (hg : segs[k]? = some g)
    (hx : g.data.drop j = xs) (b : Bus) :
    RowsReach xs.length (dataRow .wdata segs k j g.data.length b)
      (afterLoop segs (writeLoop g.addr k j xs b).1 (writeLoop g.addr k j xs b).2) := by
  induction xs generalizing j b with
  | nil =>
    rw [dataRow_of_le (List.drop_eq_nil_iff.1 hx)]
    exact .refl _ _
  | cons x xs ih =>
    obtain ⟨hlt, hbyte, hrest⟩ := drop_eq_cons hx
    obtain ⟨b₁, -, hs, hj, -, -, -, h⟩ := drvCall_cases .wbyte (fun ack _ => .w x ack) (b.at .wdata k j)
    simp only [Bus.at_seg, Bus.at_byte] at hs hj
    rw [dataRow_of_lt hlt]
    rcases h with ⟨_ | _, y, e⟩ | e | e <;> simp only [writeLoop, drvWbyte, e]
    · refine .one ?_
      simp only [fsmStep_wdata hg, fsmWData, hbyte, drvWbyte, e, Bus.at_byte, Bus.record_seg, Bus.record_byte, hs, hj]
      rfl
    · refine .row (r₁ := dataRow .wdata segs k (j + 1) g.data.length (b₁.record (.w x true))) ?_ (ih hrest _)
      simp only [fsmStep_wdata hg, fsmWData, hbyte, drvWbyte, e, Bus.at_byte, Bus.record_seg, Bus.record_byte, hs, hj]
      rfl
    · refine .one ?_
      simp only [fsmStep_wdata hg, fsmWData, hbyte, drvWbyte, e, Bus.at_byte]
      rfl
    · refine .one ?_
      simp only [fsmStep_wdata hg, fsmWData, hbyte, drvWbyte, e, Bus.at_byte]
      rfl

/-- Storing a byte of a Read segment: the bytes before it and after it stay, and the segment keeps its length. -/
theorem set_of_drop_eq_cons {xs ys : List Byte} {j : Nat} {y : Byte} (h : xs.drop j = y :: ys) (x : Byte) :
    (xs.set j x).drop (j + 1) = ys ∧ (xs.set j x).take (j + 1) = xs.take j ++ [x] := by
  obtain ⟨hlt, -, hrest⟩ := drop_eq_cons h
  refine ⟨by rw [List.drop_set_of_lt (Nat.lt_succ_self j), hrest], ?_⟩
  rw [List.take_add_one, List.take_set_of_le le_rfl, List.getElem?_set_self hlt]
  rfl

theorem set_of_getElem? {segs : List Segment} {g : Segment} {k : Nat} (hg : segs[k]? = some g) : segs.set k g = segs := by
  obtain ⟨hk, rfl⟩ := List.getElem?_eq_some_iff.1 hg
  exact List.set_getElem_self hk

/-- Bytes that are not received leave the segment as it was (R242). -/
theorem set_of_drop {segs : List Segment} {g : Segment} {k j : Nat} {olds : List Byte} (hg : segs[k]? = some g)
    (hx : g.data.drop j = olds) : segs.set k { g with data := g.data.take j ++ olds } = segs := by
  rw [← hx, List.take_append_drop]
  exact set_of_getElem? hg

theorem readLoop_rows {segs : List Segment} {g : Segment} {k j : Nat} {olds : List Byte} (hg : segs[k]? = some g)
    (hx : g.data.drop j = olds) (b : Bus) :
    RowsReach olds.length (dataRow .rdata segs k j g.data.length b)
      (afterLoop (segs.set k { g with data := g.data.take j ++ (readLoop k g.data.length j olds b).2.1 })
        (readLoop k g.data.length j olds b).1 (readLoop k g.data.length j olds b).2.2) := by
  induction olds generalizing segs g j b with
  | nil =>
    rw [dataRow_of_le (List.drop_eq_nil_iff.1 hx)]
    simp only [readLoop, set_of_drop hg hx]
    exact .refl _ _
  | cons old olds ih =>
    obtain ⟨hlt, -, -⟩ := drop_eq_cons hx
    obtain ⟨b₁, -, hs, hj, -, -, -, h⟩ := drvCall_cases .rbyte (fun _ y => .r (ackNextOf j g.data.length) y) (b.at .rdata k j)
    simp only [Bus.at_seg, Bus.at_byte] at hs hj
    rw [dataRow_of_lt hlt]
    rcases h with ⟨_, x, e⟩ | e | e <;> simp only [readLoop, drvRbyte, e, set_of_drop hg hx]
    · obtain ⟨hdrop, htake⟩ := set_of_drop_eq_cons hx x
      have hg' : (segs.set k { g with data := g.data.set j x })[k]? = some { g with data := g.data.set j x } :=
        List.getElem?_set_self (List.getElem?_eq_some_iff.1 hg).1
      have h := ih hg' hdrop (b₁.record (.r (ackNextOf j g.data.length) x))
      simp only [List.set_set, htake, List.length_set, List.append_assoc, List.singleton_append] at h
      refine .row (r₁ := dataRow .rdata _ k (j + 1) g.data.length (b₁.record (.r (ackNextOf j g.data.length) x))) ?_ h
      simp only [fsmStep_rdata hg, fsmRData, drvRbyte, e, Bus.at_byte, Bus.record_seg, Bus.record_byte, hs, hj]
      rfl
    · refine .one ?_
      simp only [fsmStep_rdata hg, fsmRData, drvRbyte, e, Bus.at_byte]
      rfl
    · refine .one ?_
      simp only [fsmStep_rdata hg, fsmRData, drvRbyte, e, Bus.at_byte]
      rfl

theorem dataPhase_rows {segs : List Segment} {g : Segment} {k : Nat} (hg : segs[k]? = some g) (b : Bus) :
    RowsReach g.data.length (dataRow (if g.dir = .write then .wdata else .rdata) segs k 0 g.data.length b)
      (afterLoop (segs.set k (dataPhase k g b).2.1) (dataPhase k g b).1 (dataPhase k g b).2.2) := by
  cases hd : g.dir with
  | write =>
    rw [dataPhase_write hd, set_of_getElem? hg]
    exact writeLoop_rows hg List.drop_zero b
  | read =>
    rw [dataPhase_read hd]
    exact readLoop_rows hg List.drop_zero b

/-- Where the table goes from `Addr` when the address byte is acknowledged. -/
theorem addressed_eq_dataRow (segs : List Segment) (g : Segment) (b : Bus) (phase : Phase) :
    (if g.data.length = 0 then EngineRun.nextSegment ⟨segs, b, none⟩ b else EngineRun.goto ⟨segs, b, none⟩ b phase b.seg 0) =
      dataRow phase segs b.seg 0 g.data.length b := by
  by_cases h : g.data.length = 0
  · rw [if_pos h, dataRow_of_le h.le]; rfl
  · rw [if_neg h, dataRow_of_lt (Nat.pos_of_ne_zero h)]; rfl

theorem addrPhase_rows {segs : List Segment} {g : Segment} {k : Nat} (hg : segs[k]? = some g) (b : Bus) :
    RowsReach (g.data.length + 1) ⟨segs, b.at .addr k 0, none⟩
      (afterLoop (segs.set k (addrPhase k g b).2.1) (addrPhase k g b).1 (addrPhase k g b).2.2) := by
  obtain ⟨b₁, -, hs, -, -, -, -, h⟩ := drvCall_cases .addr (fun ack _ => .a g.addr (decide (g.dir = .read)) ack) (b.at .addr k 0)
  simp only [Bus.at_seg] at hs
  rcases h with ⟨_ | _, y, e⟩ | e | e <;> simp only [addrPhase, drvAddr, e, set_of_getElem? hg]
  · refine .one ?_
    simp only [fsmStep_addr hg, fsmAddr, drvAddr, e]
    rfl
  · refine .row ?_ (dataPhase_rows hg _)
    simp only [fsmStep_addr hg, fsmAddr, drvAddr, e]
    exact (addressed_eq_dataRow segs g _ _).trans (by rw [Bus.record_seg, hs])
  · refine .one ?_
    simp only [fsmStep_addr hg, fsmAddr, drvAddr, e]
    rfl
  · refine .one ?_
    simp only [fsmStep_addr hg, fsmAddr, drvAddr, e]
    rfl

theorem runSegment_rows {segs : List Segment} {g : Segment} {k : Nat} (hg : segs[k]? = some g) (b : Bus) :
    RowsReach (2 + g.data.length) ⟨segs, b.at .start k b.byte, none⟩
      (afterLoop (segs.set k (runSegment k g b).2.1) (runSegment k g b).1 (runSegment k g b).2.2) := by
  rw [Nat.add_comm]
  obtain ⟨b₁, -, hs, -, -, -, -, h⟩ :=
    drvCall_cases (conditionPrim k) (fun _ _ => if k = 0 then .s else .sr) (b.at .start k b.byte)
  simp only [Bus.at_seg] at hs
  rcases h with ⟨_, y, e⟩ | e | e <;> simp only [runSegment, conditionCall_eq, e, set_of_getElem? hg]
  · refine .row ?_ (addrPhase_rows hg _)
    simp only [fsmStep_start, fsmStart, Bus.at_seg, conditionCall_eq, e, EngineRun.goto, Bus.record_seg, hs]
  · refine .one ?_
    simp only [fsmStep_start, fsmStart, Bus.at_seg, conditionCall_eq, e, Bus.record_seg, hs]
    rfl
  · refine .one ?_
    simp only [fsmStep_start, fsmStart, Bus.at_seg, conditionCall_eq, e]
    rfl

/-! ## The rows of a submit -/

/-- The run at its end: the segment loop has ended with `o`, and the stop has been called unless a call of the loop is
outstanding. -/
def submitEnd (segs : List Segment) (o : LoopOut) (b : Bus) : EngineRun :=
  if o = .blocked then ⟨segs, b, some .blocked⟩
  else ⟨segs, (stopPhase (b.withErr o.err)).2, some (stopPhase (b.withErr o.err)).1⟩

theorem submitEnd_out (segs : List Segment) (o : LoopOut) (b : Bus) : (submitEnd segs o b).out.isSome = true := by
  unfold submitEnd
  split <;> rfl

theorem stopPhase_row (segs : List Segment) (b : Bus) :
    fsmStep ⟨segs, b.at .stop b.seg b.byte, none⟩ = ⟨segs, (stopPhase b).2, some (stopPhase b).1⟩ := by
  rw [fsmStep_stop]
  unfold fsmStop stopPhase
  rcases drvStop (b.at .stop b.seg b.byte) with ⟨_ | _ | _, b'⟩ <;> rfl

/-- A failure or an outstanding call ends the submit, whatever segments are left. -/
theorem afterLoop_rows {o : LoopOut} (ho : o ≠ .done) (segs : List Segment) {b : Bus} (he : b.err = none) :
    RowsReach 1 (afterLoop segs o b) (submitEnd segs o b) := by
  cases o with
  | done => exact absurd rfl ho
  | failed f =>
    have hfail : afterLoop segs (.failed f) b = ⟨segs, (b.withErr (some f)).at .stop b.seg b.byte, none⟩ := by
      simp [afterLoop, EngineRun.fail, he]
    rw [hfail]
    exact .one (stopPhase_row segs (b.withErr (some f)))
  | blocked => exact .refl _ _

/-- Where the table goes when the next segment is number `k`: to its condition, or to the stop when there is no such segment. -/
def segmentRow (segs : List Segment) (k : Nat) (b : Bus) : EngineRun :=
  if k < segs.length then ⟨segs, b.at .start k b.byte, none⟩ else ⟨segs, b.at .stop b.seg b.byte, none⟩

theorem afterLoop_done (segs : List Segment) (b : Bus) : afterLoop segs .done b = segmentRow segs (b.seg + 1) b := rfl

/-- The segments `gs`, with those of `front` done, and the stop. -/
theorem runSegments_rows (front gs : List Segment) (b : Bus) (he : b.err = none) :
    RowsReach (segmentCalls gs + 1) (segmentRow (front ++ gs) front.length b)
      (submitEnd (front ++ (runSegments front.length gs b).2.1) (runSegments front.length gs b).1
        (runSegments front.length gs b).2.2) := by
  induction gs generalizing front b with
  | nil =>
    have hself : b.withErr none = b := by rw [← he]; rfl
    rw [segmentRow, if_neg (by simp)]
    refine .row (stopPhase_row _ b) ?_
    simp only [runSegments, submitEnd, LoopOut.err, hself]
    exact .refl _ _
  | cons g gs ih =>
    have hg : (front ++ g :: gs)[front.length]? = some g := by simp
    have hrows := runSegment_rows hg b
    obtain ⟨hseg, es, hl, -⟩ := runSegment_ends front.length g 0 0 b
    have hset (g' : Segment) : (front ++ g :: gs).set front.length g' = front ++ g' :: gs := by simp
    rw [segmentRow, if_pos (by simp), segmentCalls_cons, Nat.add_assoc]
    rw [hset] at hrows
    refine hrows.trans ?_
    obtain ⟨g', b₁, o, gs', b₂, e₁, e₂, e⟩ | ⟨f, g', b₁, e₁, e⟩ | ⟨g', b₁, e₁, e⟩ := runSegments_cons front.length g gs b <;>
      rw [e, e₁] <;> rw [e₁] at hseg hl
    · have h := ih (front ++ [g']) b₁ (hl.err.trans he)
      simp only [List.append_assoc, List.singleton_append, List.length_append, List.length_singleton, e₂] at h
      rw [afterLoop_done, show b₁.seg = front.length from hseg]
      exact h
    · exact (afterLoop_rows (o := .failed f) nofun _ (hl.err.trans he)).mono (Nat.le_add_left ..)
    · exact (afterLoop_rows (o := .blocked) nofun _ (hl.err.trans he)).mono (Nat.le_add_left ..)

theorem submitEnd_eq {segs segs' : List Segment} {b b' : Bus} {o : LoopOut} (hne : segs ≠ [])
    (h : runSegments 0 segs (b.withErr none) = (o, segs', b')) (he : b'.err = none) :
    submitEnd segs' o b' = ⟨(engineSubmit segs b).2.1, (engineSubmit segs b).2.2, some (engineSubmit segs b).1⟩ := by
  by_cases ho : o = .blocked
  · obtain _ | ⟨g, gs⟩ := segs
    · exact absurd rfl hne
    · subst ho
      simp [submitEnd, engineSubmit, h]
  · rw [submitEnd, if_neg ho, engineSubmit_of_ended hne h ho he]

/-- Settles O41: both machines come to the same end, the table within as many rows as the submit can make calls. -/
theorem engineTableRefinesSubmit : Obligations.EngineTableRefinesSubmit := by
  intro segs b
  obtain _ | ⟨g, gs⟩ := segs
  · rfl
  · have hrows := runSegments_rows [] (g :: gs) (b.withErr none) rfl
    obtain ⟨es, m, hl, -⟩ := runSegments_ends (g :: gs) 0 0 0 (b.withErr none)
    exact (hrows.fsmRun_eq (submitEnd_out ..)).trans (submitEnd_eq (List.cons_ne_nil g gs) rfl hl.err)

end Sys2Proof.Machine
end

section
/-! PROOFS of the statements about the transport adapter (46_transport_and_registry.md): the transactions of `TP.SEND` and
`TP.POLL` against an acknowledging driver (R252 to R259), and what becomes of their faults (R253). -/

namespace Sys2Proof.Machine

open Sys2Proof.Claim

/-! ## A transaction against an acknowledging driver (R250, 45_bus_engine.md R230 to R237) -/

/-- A `BUS.SUBMIT` that completes with Ok tells how its engine run ended. -/
theorem engineSubmit_of_busSubmit_ok {s : State} {gs : List Segment} {b : Bus} (hv : s.txn.valid = true)
    (hc : s.txn.consumed = false) (h : exec .busSubmit s =
      .next (((s.withTxn { s.txn with segs := gs, consumed := true }).withBus b).withResult (some .ok))) :
    engineSubmit s.txn.segs s.bus = (.ok, gs, b) := by
  obtain ⟨o, gs', b', hrun, hend⟩ := submitRun_cases s
  have hsame := hend.symm.trans (Host.Outcome.next.inj ((exec_busSubmit_fresh hv hc).symm.trans h))
  obtain rfl : gs' = gs := congrArg (·.txn.segs) hsame
  obtain rfl : b' = b := congrArg (·.bus) hsame
  have hres := congrArg (·.result) hsame
  cases o with
  | ok => exact hrun
  | fault f => cases hres
  | blocked => cases hres

/-- What O39 says of the transaction slot holds of every list of segments. -/
theorem engineSubmit_acked {segs : List Segment} (hne : segs ≠ []) {xs : List Byte} {tail : List DrvAnswer} {b : Bus}
    (hl : xs.length = callBound segs) (hs : b.script = ackScript xs ++ tail) :
    ∃ b', engineSubmit segs b = (.ok, segmentsAfter segs xs, b') ∧ b'.trace = b.trace ++ segmentsTrace 0 segs xs ++ [.p] ∧
      b'.script = tail ∧ b'.phase = .idle ∧ b'.err = none := by
  obtain ⟨b', e, ht, hs', hp, he, -, -⟩ := acknowledgedSubmitRunsEverySegment
    ((State.reset.withTxn ⟨true, segs, false⟩).withBus b) xs tail rfl rfl hne hl hs
  exact ⟨b', engineSubmit_of_busSubmit_ok rfl rfl e, ht, hs', hp, he⟩

theorem byteAt_append_left {xs : List Byte} {j : Nat} (h : j < xs.length) (ys : List Byte) :
    byteAt (xs ++ ys) j = byteAt xs j :=
  List.getD_append xs ys 0 j h

theorem map_byteAt_range (xs : List Byte) : (List.range xs.length).map (byteAt xs) = xs := by
  refine List.ext_getElem (by simp) fun j _ hj => ?_
  simp [byteAt, hj]

theorem pollSegs_ne_nil (addr : Addr) (selector : Byte) (n : Nat) : pollSegs addr selector n ≠ [] := List.cons_ne_nil _ _

/-- A poll transaction makes six calls beside its byte reads. -/
theorem callBound_pollSegs (addr : Addr) (selector : Byte) (n : Nat) : callBound (pollSegs addr selector n) = n + 6 := by
  simp only [callBound_eq, pollSegs, segmentCalls_cons, segmentCalls_nil, List.length_singleton, zeroBytes_length]
  omega

/-- The bytes that the driver answers to the reads of a poll transaction are what its read segment then holds. -/
theorem segmentsAfter_pollSegs (addr : Addr) (selector y : Byte) (xs : List Byte) :
    segmentsAfter (pollSegs addr selector xs.length) ([y, y, y, y, y] ++ xs ++ [y]) =
      [⟨.write, addr, [selector]⟩, ⟨.read, addr, xs⟩] := by
  have hread : (List.range xs.length).map (byteAt (xs ++ [y])) = xs := by
    conv_rhs => rw [← map_byteAt_range xs]
    exact List.map_congr_left fun j hj => byteAt_append_left (List.mem_range.1 hj) [y]
  simpa [pollSegs, segmentsAfter, segmentAfter] using hread

theorem segmentsTrace_pollSegs (addr : Addr) (selector y : Byte) (xs : List Byte) :
    segmentsTrace 0 (pollSegs addr selector xs.length) ([y, y, y, y, y] ++ xs ++ [y]) ++ [.p] = pollTrace addr selector xs := by
  have hread : (List.range xs.length).map (fun j => BusEvent.r (decide (j + 1 < xs.length)) (byteAt (xs ++ [y]) j)) =
      (List.range xs.length).map fun j => .r (decide (j + 1 < xs.length)) (byteAt xs j) :=
    List.map_congr_left fun j hj => by rw [byteAt_append_left (List.mem_range.1 hj)]
  simpa [pollSegs, segmentsTrace, segmentTrace, pollTrace] using hread

/-- One poll transaction, acknowledged and answered with `xs` (R255, R257). -/
theorem engineSubmit_pollSegs (addr : Addr) (selector : Byte) {y : Byte} {xs : List Byte} {tail : List DrvAnswer} {b : Bus}
    (hs : b.script = pollScript y xs ++ tail) :
    ∃ b', engineSubmit (pollSegs addr selector xs.length) b =
        (.ok, [⟨.write, addr, [selector]⟩, ⟨.read, addr, xs⟩], b') ∧
      b'.trace = b.trace ++ pollTrace addr selector xs ∧ b'.script = tail ∧ b'.phase = .idle ∧ b'.err = none := by
  have hl : ([y, y, y, y, y] ++ xs ++ [y]).length = callBound (pollSegs addr selector xs.length) := by
    simp only [callBound_pollSegs, List.length_append, List.length_cons, List.length_nil]
    omega
  obtain ⟨b', e, ht, hend⟩ := engineSubmit_acked (pollSegs_ne_nil _ _ _) hl hs
  rw [segmentsAfter_pollSegs] at e
  rw [List.append_assoc, segmentsTrace_pollSegs] at ht
  exact ⟨b', e, ht, hend⟩

/-! ## A transport command whose engine runs are known (R252 to R260) -/

theorem transact_of_ok {segs gs : List Segment} {s : State} {b : Bus} (h : engineSubmit segs s.bus = (.ok, gs, b))
    (k : List Segment → State → State) : transact segs s k = k gs (s.withBus b) := by
  simp [transact, h]

theorem transact_of_fault {segs gs : List Segment} {s : State} {f : BusFault} {b : Bus}
    (h : engineSubmit segs s.bus = (.fault f, gs, b)) (k : List Segment → State → State) :
    transact segs s k = (s.withBus b).withResult (some (.fault (translateFault f))) := by
  simp [transact, h]

theorem exec_tpSend_ready {s : State} (ha : s.tp.addrValid = true) (hv : s.frm.valid = true) :
    exec .tpSend s = .next (sendOp s) := by
  rw [exec_tpSend, needConfigured_true ha, hv, needObject_true]

theorem exec_tpPoll_ready {s : State} (ha : s.tp.addrValid = true) : exec .tpPoll s = .next (pollOp s) := by
  rw [exec_tpPoll, needConfigured_true ha]

@[simp] theorem pollData_pair (g h : Segment) : pollData [g, h] = h.data := rfl

section
variable {s : State} {gs : List Segment} {f : BusFault} {b : Bus}

theorem sendOp_of_ok (h : engineSubmit [⟨.write, s.tp.addr, (memoize s.cfg s.frm).ser.getD []⟩] s.bus = (.ok, gs, b)) :
    sendOp s = ((s.withFrm (memoize s.cfg s.frm)).withBus b).withResult (some .ok) :=
  transact_of_ok (s := s.withFrm (memoize s.cfg s.frm)) h _

theorem sendOp_of_fault
    (h : engineSubmit [⟨.write, s.tp.addr, (memoize s.cfg s.frm).ser.getD []⟩] s.bus = (.fault f, gs, b)) :
    sendOp s = ((s.withFrm (memoize s.cfg s.frm)).withBus b).withResult (some (.fault (translateFault f))) :=
  transact_of_fault (s := s.withFrm (memoize s.cfg s.frm)) h _

end

section
variable {s : State} {g : Segment} {lo hi : Byte} {raw : List Byte} {n : Nat} {b : Bus}

/-- No data, or more than the host takes (R256). -/
theorem pollOp_of_no_data (h : engineSubmit (pollSegs s.tp.addr 0xFC 2) s.bus = (.ok, [g, ⟨.read, s.tp.addr, [lo, hi]⟩], b))
    (hcount : lo.toNat + 256 * hi.toNat = 0 ∨ s.tp.ceiling.toNat < lo.toNat + 256 * hi.toNat) :
    pollOp s = ((s.withFrm { s.frm with valid := false }).withBus b).withResult (some .absent) := by
  rw [pollOp, State.cfg_selCount, transact_of_ok h, pollData_pair, ofLe_pair, State.withBus_tp, if_pos hcount]
  rfl

theorem pollOp_of_data (h : engineSubmit (pollSegs s.tp.addr 0xFC 2) s.bus = (.ok, [g, ⟨.read, s.tp.addr, [lo, hi]⟩], b))
    (hpos : 0 < lo.toNat + 256 * hi.toNat) (hle : lo.toNat + 256 * hi.toNat ≤ s.tp.ceiling.toNat) :
    pollOp s = pollRead (lo.toNat + 256 * hi.toNat) (s.withBus b) := by
  rw [pollOp, State.cfg_selCount, transact_of_ok h, pollData_pair, ofLe_pair, State.withBus_tp,
    if_neg (not_or.2 ⟨hpos.ne', Nat.not_lt.2 hle⟩)]

/-- The second transaction of a poll hands its bytes to the codec: the first byte 0xFF of R258 begins no frame, so the check for it
only says Absent sooner. -/
theorem pollRead_of_ok (h : engineSubmit (pollSegs s.tp.addr 0xFF n) s.bus = (.ok, [g, ⟨.read, s.tp.addr, raw⟩], b)) :
    pollRead n s = loadFrame s.cfg raw (s.withBus b) := by
  rw [pollRead, State.cfg_selData, transact_of_ok h, pollData_pair, State.cfg_noData]
  split
  case isTrue hff =>
    have hnone : parseFrame s.build.config raw = none := parseFrame_eq_none fun c i p _ e => by
      rw [e, serFrame_eq] at hff
      exact absurd (Option.some.inj hff) (by decide)
    exact (loadFrame_of_none hnone _).symm
  case isFalse => rfl

end

/-- Settles O47: the one segment holds the serialized frame, and the engine puts its bytes out in order. -/
theorem sendWritesTheFrameInOneSegment : Obligations.SendWritesTheFrameInOneSegment := by
  intro s xs tail ha hv hf hl hs bytes ck
  have hlen : bytes.length = s.frm.payload.length + 8 := serFrame_length s.build ..
  obtain ⟨b, e, ht, hend⟩ := engineSubmit_acked (segs := [⟨.write, s.tp.addr, bytes⟩]) (List.cons_ne_nil _ _)
    (by rw [hl, callBound_eq, segmentCalls_cons, segmentCalls_nil, hlen]; omega) hs
  refine ⟨b, ?_, ?_, hend⟩
  · rw [exec_tpSend_ready ha hv, sendOp_of_ok (by rw [memoize_eq hf]; exact e), memoize_eq hf]
  · simpa [segmentsTrace, segmentTrace] using ht

/-- Settles O48: the first transaction runs, and its count ends the poll. -/
theorem pollWithoutDataIsAbsent : Obligations.PollWithoutDataIsAbsent := by
  intro s y lo hi tail ha hs hcount
  obtain ⟨b, e, ht, hend⟩ := engineSubmit_pollSegs s.tp.addr 0xFC hs
  exact ⟨b, (exec_tpPoll_ready ha).trans (congrArg _ (pollOp_of_no_data e hcount)), ht, hend⟩

/-- Settles O49: both transactions run, and by O29 the codec loads exactly the serialized frames. -/
theorem pollHandsTheDataToTheCodec : Obligations.PollHandsTheDataToTheCodec := by
  intro s y lo hi raw tail ha hs hl hpos hle
  rw [List.append_assoc] at hs
  obtain ⟨b₁, e₁, ht₁, hs₁, -⟩ := engineSubmit_pollSegs s.tp.addr 0xFC hs
  obtain ⟨b, e, ht, hscript, hphase, herr⟩ := engineSubmit_pollSegs s.tp.addr 0xFF hs₁
  have hpoll : exec .tpPoll s = .next (loadFrame s.cfg raw (s.withBus b)) := by
    rw [exec_tpPoll_ready ha, pollOp_of_data e₁ (hl ▸ hpos) (hl ▸ hle), ← hl]
    exact congrArg _ (pollRead_of_ok (s := s.withBus b₁) e)
  refine ⟨b, by rw [ht, ht₁], hscript, hphase, herr, fun c i p hp hraw => ?_, fun hno => ?_⟩
  · have hparse := parseFrame_serFrame s.build c i hp
    exact hpoll.trans (congrArg _ (loadFrame_of_some (hraw ▸ hparse) _))
  · have hparse : parseFrame s.build.config raw = none := parseFrame_eq_none hno
    exact hpoll.trans (congrArg _ (loadFrame_of_none hparse _))

/-! ## Faults (R253, R260) -/

/-- The table of R253 leaves three kinds of fault. -/
theorem translateFault_kinds (f : BusFault) :
    (∃ a, translateFault f = .transportUnreachable (.nackAddress a)) ∨
    (∃ c, translateFault f = .transportDriver (.driverFault c)) ∨
    (∃ a k j, translateFault f = .transportGeneric (.nackDataWrite a k j)) := by
  cases f with
  | nackAddress a => exact .inl ⟨a, rfl⟩
  | driverFault c => exact .inr (.inl ⟨c, rfl⟩)
  | nackDataWrite a k j => exact .inr (.inr ⟨a, k, j, rfl⟩)

/-- Where the state holds a fault as its result, that is a translated one, and the history ends with a stop call. -/
def State.FaultsAfterStop (t : State) : Prop :=
  ∀ f, t.result = some (.fault f) →
    (∃ pre last, t.bus.trace = pre ++ [last] ∧ isStopCall last = true) ∧ ∃ g, f = translateFault g

theorem faultsAfterStop_loadFrame (cfg : Config) (raw : List Byte) (t : State) : (loadFrame cfg raw t).FaultsAfterStop := by
  rcases loadFrame_cases cfg raw t with ⟨-, e⟩ | ⟨p, -, e⟩ <;> rw [e] <;> nofun

/-- A transaction of something that ends with a fault has made its stop call (45_bus_engine.md R234). -/
theorem faultsAfterStop_transact {segs : List Segment} (hne : segs ≠ []) (s : State) {k : List Segment → State → State}
    (hk : ∀ gs t, (k gs t).FaultsAfterStop) : (transact segs s k).FaultsAfterStop := by
  rcases transact_cases segs s k with ⟨gs, b, -, e⟩ | ⟨f, gs, b, hrun, e⟩ | ⟨gs, b, -, e⟩ <;> rw [e]
  · exact hk gs (s.withBus b)
  · obtain ⟨first, mid, last, ht, hx, -⟩ := engineSubmit_exchange hne hrun nofun
    rintro - ⟨⟩
    exact ⟨⟨s.bus.trace ++ first :: mid, last, by simp [ht], hx.stop⟩, f, rfl⟩
  · nofun

theorem faultsAfterStop_sendOp (s : State) : (sendOp s).FaultsAfterStop :=
  faultsAfterStop_transact (List.cons_ne_nil _ _) _ fun _ _ => nofun

theorem faultsAfterStop_pollRead (count : Nat) (s : State) : (pollRead count s).FaultsAfterStop := by
  refine faultsAfterStop_transact (pollSegs_ne_nil _ _ _) s fun gs t => ?_
  split
  · nofun
  · exact faultsAfterStop_loadFrame _ _ t

theorem faultsAfterStop_pollOp (s : State) : (pollOp s).FaultsAfterStop := by
  refine faultsAfterStop_transact (pollSegs_ne_nil _ _ _) s fun gs t => ?_
  split
  · nofun
  · exact faultsAfterStop_pollRead _ t

/-- Both transport commands: a refusal is no fault, and past the checks a fault comes from a transaction. -/
theorem exec_transport_faultsAfterStop {s t : State} {i : Instr} (hi : i = .tpSend ∨ i = .tpPoll) (h : exec i s = .next t) :
    t.FaultsAfterStop := by
  obtain rfl | rfl := hi
  · rcases tpSend_cases s with ⟨r, e⟩ | e <;> cases e.symm.trans h
    · nofun
    · exact faultsAfterStop_sendOp s
  · rcases tpPoll_cases s with ⟨r, e⟩ | e <;> cases e.symm.trans h
    · nofun
    · exact faultsAfterStop_pollOp s

/-- Settles O50: a failed transaction ends the command with the translation of its fault, whichever transaction it is. -/
theorem transportTranslatesEngineFaults : Obligations.TransportTranslatesEngineFaults := by
  refine ⟨fun f => ⟨rfl, rfl, rfl⟩, fun s f gs b ha hv hrun => ?_, fun s f gs b ha hrun => ?_,
    fun s f g lo hi gs b b' ha hrun hpos hle hrun' => ?_, fun s t i f hi _ h hres => ?_⟩
  · exact (exec_tpSend_ready ha hv).trans (congrArg _ (sendOp_of_fault hrun))
  · exact (exec_tpPoll_ready ha).trans (congrArg _ (transact_of_fault hrun _))
  · rw [exec_tpPoll_ready ha, pollOp_of_data hrun hpos hle]
    exact congrArg _ (transact_of_fault (s := s.withBus b) hrun' _)
  · obtain ⟨hstop, g, rfl⟩ := exec_transport_faultsAfterStop hi h f hres
    exact ⟨hstop, translateFault_kinds g⟩

end Sys2Proof.Machine
end

section
/-! PROOFS of the statement about the message registry (46_transport_and_registry.md R262 to R269). -/

namespace Sys2Proof.Machine

/-- The class is the high byte of the key, the id the low one (R264). -/
theorem registryKey_toNat (c i : Byte) : (registryKey c i).toNat = c.toNat * 256 + i.toNat := append_toNat c i

theorem registryKey_inj {c c' i i' : Byte} (h : registryKey c i = registryKey c' i') : c = c' ∧ i = i' := by
  have hnat : c.toNat * 256 + i.toNat = c'.toNat * 256 + i'.toNat := by rw [← registryKey_toNat, h, registryKey_toNat]
  constructor <;> apply BitVec.eq_of_toNat_eq <;> omega

section
variable {Msg : Type} (reg : Registry Msg) (t : MessageType Msg)

theorem lookupType_register_self : lookupType (register reg t) (registryKey t.cls t.id) = some t := by
  simp [lookupType, register]

/-- What a registration takes out of the registry has its own key. -/
theorem lookupType_register_ne {key : BitVec 16} (h : key ≠ registryKey t.cls t.id) :
    lookupType (register reg t) key = lookupType reg key := by
  rw [lookupType, register, List.find?_cons_of_neg (by simpa using h.symm), List.find?_filter, lookupType]
  congr 2
  funext e
  by_cases he : e.1 = key <;> simp [he, h]

theorem unflatten_register_self (p : List Byte) : unflatten (register reg t) ⟨t.cls, t.id, p⟩ = t.decode p := by
  simp [unflatten, lookupType_register_self]

theorem unflatten_register_ne {c i : Byte} (h : c ≠ t.cls ∨ i ≠ t.id) (p : List Byte) :
    unflatten (register reg t) ⟨c, i, p⟩ = unflatten reg ⟨c, i, p⟩ := by
  have hkey : registryKey c i ≠ registryKey t.cls t.id := fun e => h.elim (· (registryKey_inj e).1) (· (registryKey_inj e).2)
  simp only [unflatten, lookupType_register_ne reg t hkey]

end

/-- Settles O59: a registration decides its own key's lookup and no other, and the key tells class and id apart. -/
theorem lastRegistrationWins : Obligations.LastRegistrationWins := fun _ reg t cap m c i p =>
  ⟨registryKey_toNat c i, unflatten_register_self reg t p, fun h => unflatten_register_ne reg t h p, rfl,
    unflatten_register_self reg (cap.typeOf m) (cap.serializePayload m)⟩

end Sys2Proof.Machine
end

section
/-! PROOFS of the statements about refusals, faults and absences (60_exceptions.md): how each command can end (R284), and the refusals
of a command whose slot, transport address or default address has not been set (R283, R287). -/

namespace Sys2Proof.Machine

open Sys2Proof.Claim

/-! ## Ends that the table of R284 allows -/

/-- The result in `t` is one that the table of R284 allows for the command. -/
def EndsIn (i : Instr) (t : State) : Prop := canEnd i t.result

section
variable {i : Instr}

theorem endsIn_ok (t : State) : EndsIn i t.ok := trivial
theorem endsIn_okValue (t : State) (v : Value) : EndsIn i (t.okValue v) := trivial
theorem endsIn_absent (t : State) (h : canEnd i (some .absent)) : EndsIn i t.absent := h
theorem endsIn_raise (t : State) {f : CmdFault} (h : canFault i f) : EndsIn i (t.raise f) := h
theorem endsIn_refuse (t : State) {r : RefuseReason} (h : canRefuse i r) : EndsIn i (t.refuse r) := h
theorem endsIn_hang (t : State) (h : canEnd i none) : EndsIn i t.hang := h

/-! ## The checks before a command runs: each adds one refusal -/

theorem endsIn_needObject {valid : Bool} {s : State} {k : State → State} (hobj : canLackAnObject i = true) (h : EndsIn i (k s)) :
    EndsIn i (needObject valid s k) := by
  rcases needObject_cases valid s k with ⟨-, e⟩ | ⟨-, e⟩ <;> rw [e]
  · exact h
  · exact endsIn_refuse s hobj

theorem endsIn_needLength {n : Nat} {s : State} {k : State → State} (hlen : canHaveABadLength i = true) (h : EndsIn i (k s)) :
    EndsIn i (needLength n s k) := by
  rcases needLength_cases n s k with ⟨-, e⟩ | ⟨-, e⟩ <;> rw [e]
  · exact h
  · exact endsIn_refuse s hlen

theorem endsIn_needAddress {a : Byte} {s : State} {k : State → State} (haddr : canHaveABadAddress i = true) (h : EndsIn i (k s)) :
    EndsIn i (needAddress a s k) := by
  rcases needAddress_cases a s k with ⟨-, e⟩ | ⟨-, e⟩ <;> rw [e]
  · exact h
  · exact endsIn_refuse s haddr

theorem endsIn_needDefault {d : Option Addr} {s : State} {k : Addr → State → State} (hdflt : canRefuse i .noDefaultAddress)
    (h : ∀ a, EndsIn i (k a s)) : EndsIn i (needDefault d s k) := by
  rcases needDefault_cases d s k with ⟨a, -, e⟩ | ⟨-, e⟩ <;> rw [e]
  · exact h a
  · exact endsIn_refuse s hdflt

theorem endsIn_needConfigured {s : State} {k : State → State} (htp : i = .tpSend ∨ i = .tpPoll) (h : EndsIn i (k s)) :
    EndsIn i (needConfigured s k) := by
  rcases needConfigured_cases s k with ⟨-, e⟩ | ⟨-, e⟩ <;> rw [e]
  · exact h
  · exact endsIn_refuse s htp

/-! ## The packed reader and writer: NoObject, OperandRange or BoundsError -/

theorem endsIn_peekScalar (hobj : canLackAnObject i = true) (hbounds : canBeOutOfBounds i = true) (t : FieldType) (off : Word32)
    (s : State) : EndsIn i (peekScalar t off s) := by
  rcases peekScalar_cases t off s with ⟨-, e⟩ | ⟨-, -, e⟩ | ⟨-, -, e⟩ <;> rw [e]
  · exact endsIn_refuse s hobj
  · exact endsIn_okValue s _
  · exact endsIn_raise s hbounds

theorem endsIn_readScalar (hobj : canLackAnObject i = true) (hbounds : canBeOutOfBounds i = true) (t : FieldType) (s : State) :
    EndsIn i (readScalar t s) := by
  rcases readScalar_cases t s with ⟨-, e⟩ | ⟨-, -, e⟩ | ⟨-, -, e⟩ <;> rw [e]
  · exact endsIn_refuse s hobj
  · exact endsIn_okValue _ _
  · exact endsIn_raise s hbounds

theorem endsIn_peekBytes (off n : Word32) (s : State) : EndsIn (.prPeekBytes off n) (peekBytes off n s) := by
  rcases peekBytes_cases off n s with ⟨-, e⟩ | ⟨-, -, e⟩ | ⟨-, -, -, e⟩ | ⟨-, -, -, e⟩ <;> rw [e]
  · exact endsIn_refuse s rfl
  · exact endsIn_refuse s rfl
  · exact endsIn_okValue s _
  · exact endsIn_raise s rfl

theorem endsIn_readBytes (n : Word32) (s : State) : EndsIn (.prReadBytes n) (readBytes n s) := by
  rcases readBytes_cases n s with ⟨-, e⟩ | ⟨-, -, e⟩ | ⟨-, -, -, e⟩ | ⟨-, -, -, e⟩ <;> rw [e]
  · exact endsIn_refuse s rfl
  · exact endsIn_refuse s rfl
  · exact endsIn_okValue _ _
  · exact endsIn_raise s rfl

theorem endsIn_pokeRaw (hbounds : canBeOutOfBounds i = true) (off : Word32) (xs : List Byte) (s : State) :
    EndsIn i (pokeRaw off xs s) := by
  rcases pokeRaw_cases off xs s with ⟨-, e⟩ | ⟨-, e⟩ <;> rw [e]
  · exact endsIn_ok _
  · exact endsIn_raise s hbounds

theorem endsIn_writeRaw (hbounds : canBeOutOfBounds i = true) (xs : List Byte) (s : State) : EndsIn i (writeRaw xs s) := by
  rcases writeRaw_cases xs s with ⟨-, e⟩ | ⟨-, e⟩ <;> rw [e]
  · exact endsIn_ok _
  · exact endsIn_raise s hbounds

theorem endsIn_pokeScalar (hobj : canLackAnObject i = true) (hbounds : canBeOutOfBounds i = true) (t : FieldType) (off : Word32)
    (val : Nat) (s : State) : EndsIn i (pokeScalar t off val s) :=
  endsIn_needObject hobj (endsIn_pokeRaw hbounds off _ s)

theorem endsIn_writeScalar (hobj : canLackAnObject i = true) (hbounds : canBeOutOfBounds i = true) (t : FieldType) (val : Nat)
    (s : State) : EndsIn i (writeScalar t val s) :=
  endsIn_needObject hobj (endsIn_writeRaw hbounds _ s)

/-! ## The frame slot -/

/-- The one fault of `FRM.NEW` names the length of the payload it was given. -/
theorem endsIn_frmNewOp (cls id : Byte) (data : List Byte) (s : State) : EndsIn (.frmNew cls id data) (frmNewOp cls id data s) := by
  refine endsIn_needLength rfl ?_
  split
  · exact endsIn_raise s ⟨cls, id, data, rfl, rfl⟩
  · exact endsIn_ok _

theorem endsIn_loadFrame (habsent : canEnd i (some .absent)) (cfg : Config) (raw : List Byte) (s : State) :
    EndsIn i (loadFrame cfg raw s) := by
  rcases loadFrame_cases cfg raw s with ⟨-, e⟩ | ⟨p, -, e⟩ <;> rw [e]
  · exact endsIn_absent _ habsent
  · exact endsIn_okValue _ _

/-! ## The bus and the transport adapter: the faults of the engine, or no result -/

theorem endsIn_portCommand {call : Prim} (hfault : canFault i (.bus (.driverFault call))) (hhang : canEnd i none)
    (drv : Bus → CallOut × Bus) (s : State) : EndsIn i (portCommand call drv s) := by
  rcases portCommand_cases call drv s with ⟨a, x, b, -, e⟩ | ⟨b, -, e⟩ | ⟨b, -, e⟩ <;> rw [e]
  · exact endsIn_ok _
  · exact endsIn_raise _ hfault
  · exact endsIn_hang _ hhang

/-- `BUS.SUBMIT` can end with every fault of the engine, untranslated. -/
theorem canFault_busSubmit (f : BusFault) : canFault .busSubmit (.bus f) := by
  cases f with
  | driverFault c => exact .inl rfl
  | nackAddress | nackDataWrite => exact rfl

theorem endsIn_submitRun (s : State) : EndsIn .busSubmit (submitRun s) := by
  obtain ⟨o, segs, b, -, e⟩ := submitRun_cases s
  rw [e]
  cases o with
  | ok => exact endsIn_ok _
  | fault f => exact endsIn_raise _ (canFault_busSubmit f)
  | blocked => exact endsIn_hang _ (.inr (.inr (.inl rfl)))

/-- Both transport commands can end with every translation of a fault of the engine. -/
theorem canFault_translateFault (htp : i = .tpSend ∨ i = .tpPoll) (f : BusFault) : canFault i (translateFault f) := by
  cases f <;> exact htp

/-- A transaction of the transport adapter adds translated faults and the call that never returns to what follows it. -/
theorem endsIn_transact (htp : i = .tpSend ∨ i = .tpPoll) (segs : List Segment) (s : State) {k : List Segment → State → State}
    (hk : ∀ segs t, EndsIn i (k segs t)) : EndsIn i (transact segs s k) := by
  rcases transact_cases segs s k with ⟨segs', b, -, e⟩ | ⟨f, segs', b, -, e⟩ | ⟨segs', b, -, e⟩ <;> rw [e]
  · exact hk segs' (s.withBus b)
  · exact endsIn_raise _ (canFault_translateFault htp f)
  · exact endsIn_hang _ (.inr (.inr (.inr htp)))

theorem endsIn_sendOp (s : State) : EndsIn .tpSend (sendOp s) :=
  endsIn_transact (.inl rfl) _ _ fun _ t => endsIn_ok t

theorem endsIn_pollRead (count : Nat) (s : State) : EndsIn .tpPoll (pollRead count s) := by
  refine endsIn_transact (.inr rfl) _ s fun segs t => ?_
  split
  · exact endsIn_absent _ (.inr rfl)
  · exact endsIn_loadFrame (.inr rfl) _ _ t

theorem endsIn_pollOp (s : State) : EndsIn .tpPoll (pollOp s) := by
  refine endsIn_transact (.inr rfl) _ s fun segs t => ?_
  split
  · exact endsIn_absent _ (.inr rfl)
  · exact endsIn_pollRead _ t

end

/-! ## Every command -/

/-- Settles O54: each command is its checks, each with its column of the table, around an operation whose ends are the command's own.
The split follows the shared operations; each `rfl` reads the command's row in one column. -/
theorem whichCommandCanEndHow : Obligations.WhichCommandCanEndHow := by
  intro i s
  change ∃ t, exec i s = .next t ∧ EndsIn i t
  cases i with
  | cksNew | cksUpdate8 | cksUpdate16 | txnNew => exact ⟨_, rfl, endsIn_ok _⟩
  | cksGet => exact ⟨_, rfl, endsIn_okValue _ _⟩
  | prPeekU8 | prPeekS8 | prPeekU16LE | prPeekS16LE | prPeekU16BE | prPeekS16BE | prPeekU32LE | prPeekS32LE
  | prPeekU32BE | prPeekS32BE | prPeekF32 | prPeekF64 | prPeekChar => exact ⟨_, rfl, endsIn_peekScalar rfl rfl _ _ s⟩
  | prPeekBytes => exact ⟨_, rfl, endsIn_peekBytes _ _ s⟩
  | prReadU8 | prReadS8 | prReadU16LE | prReadS16LE | prReadU16BE | prReadS16BE | prReadU32LE | prReadS32LE
  | prReadU32BE | prReadS32BE | prReadF32 | prReadF64 | prReadChar => exact ⟨_, rfl, endsIn_readScalar rfl rfl _ s⟩
  | prReadBytes => exact ⟨_, rfl, endsIn_readBytes _ s⟩
  | prNew | pwNew => exact ⟨_, rfl, endsIn_needLength rfl (endsIn_ok _)⟩
  | pwPokeU8 | pwPokeS8 | pwPokeU16LE | pwPokeS16LE | pwPokeU16BE | pwPokeS16BE | pwPokeU32LE | pwPokeS32LE
  | pwPokeU32BE | pwPokeS32BE | pwPokeF32 | pwPokeF64 | pwPokeChar => exact ⟨_, rfl, endsIn_pokeScalar rfl rfl _ _ _ s⟩
  | pwPokeBytes => exact ⟨_, rfl, endsIn_needObject rfl (endsIn_needLength rfl (endsIn_pokeRaw rfl _ _ s))⟩
  | pwWriteU8 | pwWriteS8 | pwWriteU16LE | pwWriteS16LE | pwWriteU16BE | pwWriteS16BE | pwWriteU32LE | pwWriteS32LE
  | pwWriteU32BE | pwWriteS32BE | pwWriteF32 | pwWriteF64 | pwWriteChar => exact ⟨_, rfl, endsIn_writeScalar rfl rfl _ _ s⟩
  | pwWriteBytes => exact ⟨_, rfl, endsIn_needObject rfl (endsIn_needLength rfl (endsIn_writeRaw rfl _ s))⟩
  | frmNew => exact ⟨_, rfl, endsIn_frmNewOp _ _ _ s⟩
  | frmSerialize | frmChecksum => exact ⟨_, rfl, endsIn_needObject rfl (endsIn_okValue _ _)⟩
  | frmDeserialize data => exact ⟨_, rfl, endsIn_needLength rfl (endsIn_loadFrame (.inl ⟨data, rfl⟩) _ _ s)⟩
  | txnWith => exact ⟨_, rfl, endsIn_needObject rfl (endsIn_needAddress rfl (endsIn_ok _))⟩
  | txnWrite | txnRead => exact ⟨_, rfl, endsIn_needObject rfl (endsIn_needAddress rfl (endsIn_needLength rfl (endsIn_ok _)))⟩
  | txnWrited data =>
    exact ⟨_, rfl, endsIn_needObject rfl (endsIn_needDefault (.inl ⟨data, rfl⟩) fun _ => endsIn_needLength rfl (endsIn_ok _))⟩
  | txnReadd n =>
    exact ⟨_, rfl, endsIn_needObject rfl (endsIn_needDefault (.inr ⟨n, rfl⟩) fun _ => endsIn_needLength rfl (endsIn_ok _))⟩
  | txnBuild => exact ⟨_, rfl, endsIn_needObject rfl (endsIn_ok _)⟩
  | busOpen => exact ⟨_, rfl, endsIn_portCommand (.inr (.inl ⟨rfl, rfl⟩)) (.inl rfl) _ s⟩
  | busClose => exact ⟨_, rfl, endsIn_portCommand (.inr (.inr ⟨rfl, rfl⟩)) (.inr (.inl rfl)) _ s⟩
  | busSubmit =>
    refine ⟨_, rfl, endsIn_needObject rfl ?_⟩
    split
    · exact endsIn_refuse s rfl
    · exact endsIn_submitRun s
  | tpConfig => exact ⟨_, rfl, endsIn_needAddress rfl (endsIn_ok _)⟩
  | tpSend => exact ⟨_, rfl, endsIn_needConfigured (.inl rfl) (endsIn_needObject rfl (endsIn_sendOp s))⟩
  | tpPoll => exact ⟨_, rfl, endsIn_needConfigured (.inr rfl) (endsIn_pollOp s)⟩

/-! ## Use before construction (R283, R287) -/

section
variable {i : Instr} {s : State}

/-- A command whose first check is on a valid bit, while that bit is 0. -/
theorem onlyResult_noObject {valid : Bool} {k : State → State} (hv : valid = false)
    (hexec : exec i s = .next (needObject valid s k)) : onlyResult i s (.refused .noObject) := by
  rw [onlyResult, hexec, hv, needObject_false, State.refuse_eq]

/-- A command whose first check is on the transport's address, while there is none. -/
theorem onlyResult_notConfigured {k : State → State} (ha : s.tp.addrValid = false)
    (hexec : exec i s = .next (needConfigured s k)) : onlyResult i s (.refused .notConfigured) := by
  rw [onlyResult, hexec, needConfigured_false ha, State.refuse_eq]

/-- A builder command whose second check is on the default address, while there is none. -/
theorem onlyResult_noDefaultAddress {k : Addr → State → State} (hv : s.tb.valid = true) (hd : s.tb.dflt = none)
    (hexec : exec i s = .next (needObject s.tb.valid s fun s => needDefault s.tb.dflt s k)) :
    onlyResult i s (.refused .noDefaultAddress) := by
  rw [onlyResult, hexec, hv, needObject_true, hd, needDefault_none, State.refuse_eq]

/-- With an address configured, `TP.SEND` comes to its check on the frame slot (R287 lines 3 and 4). -/
theorem exec_tpSend_configured (ha : s.tp.addrValid = true) :
    exec .tpSend s = .next (needObject s.frm.valid s fun s => sendOp s) := by
  rw [exec_tpSend, needConfigured_true ha]

end

/-- Settles O52: each command makes the check that fails first, or right after one that passes. -/
theorem useBeforeConstructionIsRefused : Obligations.UseBeforeConstructionIsRefused := by
  intro s off n addr data v8 v16 v32 v64
  refine ⟨fun hpr => ?reader, fun hpw => ?writer, fun hfrm => ?frame, fun htb => ?builder, fun htxn => ?submit,
    fun htp => ?transport, fun htb hd => ?default⟩
  case reader => and_intros <;> exact onlyResult_noObject hpr rfl
  case writer => and_intros <;> exact onlyResult_noObject hpw rfl
  case frame =>
    exact ⟨onlyResult_noObject hfrm rfl, onlyResult_noObject hfrm rfl,
      fun ha => onlyResult_noObject hfrm (exec_tpSend_configured ha)⟩
  case builder => and_intros <;> exact onlyResult_noObject htb rfl
  case submit => exact onlyResult_noObject htxn rfl
  case transport => exact ⟨onlyResult_notConfigured htp rfl, onlyResult_notConfigured htp rfl⟩
  case default => exact ⟨onlyResult_noDefaultAddress htb hd rfl, onlyResult_noDefaultAddress htb hd rfl⟩

end Sys2Proof.Machine
end
